-- ==== Sys2Proof/Word.lean ====
section
/-! DEFINITION. The word types of the wire (spec 12_wire_formats.md), and the two ports. -/

namespace Sys2Proof

/-- One byte of a frame, of a request or of a block of the frame store. -/
abbrev Byte := BitVec 8

/-- A 2-byte field: a frame's sequence, a tag, a trip delay (chapter 12). -/
abbrev Half := BitVec 16

/-- A 4-byte field: a mask, an operand, a sample value, a time stamp (chapter 12). -/
abbrev Word := BitVec 32

end Sys2Proof
end

