-- ==== Sys2Proof/Syntax.lean ====
section
/-! DEFINITION. The commands of the part: one constructor per row of spec/opcode_table.json, in the table's order.
The table gives no row an operand of its own; the operands here are those the rows' rules name: a port, a monitor,
a class, an abort indication, the bytes that a block takes. -/

namespace Sys2Proof

/-- The two link ports: A faces the controller segment, B the field segment (00_scope.md). -/
inductive Port where
  | a
  | b
deriving DecidableEq, Repr

/-- A traffic class, 0..31. -/
abbrev ClassId := Fin 32

/-- A monitor number, 0..47. -/
abbrev MonitorId := Fin 48

/-- A block of the frame store's pool of 96 (R17). -/
abbrev BlockId := Fin 96

/-- The commands. Each is one whole and indivisible step (95_what_each_step_holds.md).  A management command is the
EXECUTION of the request of that command code at the head of the request queue (R163): its arguments are those the
queued request carries, so its constructor has no operand. -/
inductive Instr where
  /-- POWER_ON_RESET (R135): power-up, or assertion of RESET_N. -/
  | powerOnReset
  /-- LINK_CHANGE_UP (R4) of port `p`. -/
  | linkChangeUp (p : Port)
  /-- LINK_CHANGE_DOWN (R4) of port `p`. -/
  | linkChangeDown (p : Port)
  /-- RECEIVER_LINK_DOWN (R12): the receiver of port `p` takes the change to DOWN. -/
  | receiverLinkDown (p : Port)
  /-- TRANSMITTER_LINK_DOWN (R15): the transmitter of port `p` takes the change to DOWN. -/
  | transmitterLinkDown (p : Port)
  /-- FLUSH (R30): the frame store takes the change to DOWN of port `p`. -/
  | flush (p : Port)
  /-- SLOT_FREE_AT_LINK_DOWN (R166): the management agent takes the change to DOWN of port `p`. -/
  | slotFreeAtLinkDown (p : Port)
  /-- NOTICE_PORT_DOWN (R149): the notice sender takes the change to DOWN of port `p`. -/
  | noticePortDown (p : Port)
  /-- FRAME_START (R7) on port `p`. -/
  | frameStart (p : Port)
  /-- BLOCK_CLAIM (R7): the receiver of port `p` takes the byte at a claim position, the first of `bytes`, and the
  bytes after it that go into the same block, the rest of `bytes`.  `pick` is the frame store's own choice among the
  free blocks, which the spec leaves open (R17: "A claim is granted any free block"). -/
  | blockClaim (p : Port) (pick : BlockId) (bytes : List Byte)
  /-- OVERSIZE (R8): the receiver of port `p` takes the byte at position 508. -/
  | oversize (p : Port)
  /-- FRAME_END (R9) in RECEIVING on port `p`; `aborted` is the physical layer's abort indication. -/
  | frameEnd (p : Port) (aborted : Bool)
  /-- MGMT_REQUEST_ARRIVAL (R161): the agent takes the oldest MGMT_REQUEST handed to it from port `p`. -/
  | mgmtRequestArrival (p : Port)
  /-- NOTICE_ACK (R144): the notice sender takes the oldest NOTICE_ACK handed to it from port `p`. -/
  | noticeAck (p : Port)
  /-- FRAME_TAKE (R54). -/
  | frameTake
  /-- WALK_COMPLETION (R62). -/
  | walkCompletion
  /-- SWITCH_REQUEST (R65). -/
  | switchRequest
  /-- MONITOR_TAKE_FRAME (R86). -/
  | monitorTakeFrame
  /-- PURGE (R28) of class `c`. -/
  | purge (c : ClassId)
  /-- EGRESS_GRANT (R26) on port `p`. -/
  | egressGrant (p : Port)
  /-- END_OF_TRANSMISSION (R14) on port `p`. -/
  | endOfTransmission (p : Port)
  /-- TICK (R156). -/
  | tick
  /-- DELAY_TIMER_EXPIRY (R78) of monitor `m`. -/
  | delayTimerExpiry (m : MonitorId)
  /-- RECOVERY_TIMER_EXPIRY (R80) of monitor `m`. -/
  | recoveryTimerExpiry (m : MonitorId)
  /-- SILENCE_TIMER_EXPIRY (R82) of monitor `m`. -/
  | silenceTimerExpiry (m : MonitorId)
  /-- DECAY_TIMER_EXPIRY (R96) of monitor `m`. -/
  | decayTimerExpiry (m : MonitorId)
  /-- LATCH_EXPIRY_TIMER_EXPIRY (R100) of monitor `m`. -/
  | latchExpiryTimerExpiry (m : MonitorId)
  /-- RETRANSMIT_TIMER_EXPIRY (R146). -/
  | retransmitTimerExpiry
  /-- VERIFY_EXAMINATION_COMPLETE (R125). -/
  | verifyExaminationComplete
  /-- COPY_COMPLETE (R129). -/
  | copyComplete
  /-- RESULT_REPORT (R163). -/
  | resultReport
  /-- NOTICE_FORMING (R142). -/
  | noticeForming
  /-- IDENTIFY (R171). -/
  | identify
  /-- SET_ADDRESS (R169). -/
  | setAddress
  /-- SET_ACCESS (R170). -/
  | setAccess
  /-- READ_HEADER (R122). -/
  | readHeader
  /-- WRITE_HEADER (R120). -/
  | writeHeader
  /-- READ_ENTRIES (R122). -/
  | readEntries
  /-- WRITE_ENTRIES (R121). -/
  | writeEntries
  /-- VERIFY (R124). -/
  | verify
  /-- COMMIT (R126). -/
  | commit
  /-- READ_MONITOR (R88). -/
  | readMonitor
  /-- WRITE_MONITOR (R91). -/
  | writeMonitor
  /-- START_MONITOR (R89). -/
  | startMonitor
  /-- STOP_MONITOR (R90). -/
  | stopMonitor
  /-- RELEASE_MONITOR (R101). -/
  | releaseMonitor
  /-- SET_OVERRIDE (R110). -/
  | setOverride
  /-- READ_STATUS (R172). -/
  | readStatus
  /-- READ_COUNTERS (R153). -/
  | readCounters
  /-- SET_NOTICE (R147). -/
  | setNotice
  /-- RESUME_NOTICE (R148). -/
  | resumeNotice
  /-- RESTART (R173). -/
  | restart
  /-- BAD_COMMAND (R163): the execution of a request whose command code names no command. -/
  | badCommand
  /-- FRAME_END_IN_DISCARDING (R6) on port `p`. -/
  | frameEndInDiscarding (p : Port)
deriving DecidableEq, Repr

end Sys2Proof
end

