-- ==== Sys2Proof/Decode.lean ====
section
/-! DEFINITION. Commands spelled by the table's bits.  No row of spec/opcode_table.json gives bits ("fields" is empty
and no row has a pattern), so no word spells a command: what comes over the link is a frame, whose wire formats stand
in Machine/Operands.lean. -/

namespace Sys2Proof

/-- The command that a word of `nbits` bits spells: none. -/
def decodeTableWord (_nbits _w : Nat) : Option Instr := none

end Sys2Proof
end

