-- ==== Sys2Proof/Config.lean ====
section
/-! DEFINITION. The capacities the spec fixes (R171), and the one free value. -/

namespace Sys2Proof

/-- Bytes in a block of the frame store (R17). -/
def Config.blockSize : Nat := 64
/-- The port share (R18). -/
def Config.portShare : Nat := 64
/-- Capacity of an ingress ready list (R11, R21). -/
def Config.readyCapacity : Nat := 16
/-- Capacity of a forward queue (R22). -/
def Config.forwardCapacity : Nat := 24
/-- Capacity of the event queue (R136). -/
def Config.eventCapacity : Nat := 32
/-- The notice window (R136). -/
def Config.noticeWindow : Nat := 8
/-- The most records a NOTICE frame carries (R142). -/
def Config.recordsPerNotice : Nat := 4
/-- Capacity of the request queue (R159). -/
def Config.requestCapacity : Nat := 4
/-- Number of response slots (R159). -/
def Config.responseSlots : Nat := 4
/-- Capacity of the reply cache (R159). -/
def Config.cacheCapacity : Nat := 4
/-- Greatest position a byte of a stored frame has, plus one: the greatest total length of a valid frame (R1, R8). -/
def Config.maxTotal : Nat := 508
/-- The largest cursor (R45), and the length bound that a FRAME window of a well-formed bank meets (R49). -/
def Config.maxCursor : Nat := 508
/-- Header and payload bytes of the largest frame (R49). -/
def Config.maxWindowEnd : Nat := 504

/-- FREE VALUE (notes/assumptions/3.md): how many entries a copy had copied when a RESTART cut it (R131: "the entries
copied before the RESTART hold the new active bank's contents").  The spec gives no rate for the copy, so the number
is an uninterpreted function of a counter that each use advances. -/
opaque Config.copyProgress : Nat → Nat

end Sys2Proof
end

