-- ==== Sys2Proof/Machine/State.lean ====
section
/-! DEFINITION. The state of the part, block by block as 00_scope.md lists them, and the state right after a power-on
reset.  Plain data throughout. -/

namespace Sys2Proof.Machine

/-! ## Reasons to stop -/

/-- The part has no fault: the spec gives every command an effect in every state, so nothing raises one. -/
inductive Fault
deriving DecidableEq, Repr

/-- Why a command is refused. -/
inductive Refusal where
  /-- Raised by exec's arm of a command that has no meaning yet: no arm raises it now.  Safe: the run stops. -/
  | notModelled (mnemonic : String)
deriving DecidableEq, Repr

/-! ## Pairs of things, one per port and one per bank -/

/-- One `α` for each port. -/
structure PerPort (α : Type) where
  a : α
  b : α
deriving DecidableEq, Repr

/-- The opposite port of `p` (00_scope.md, Conventions). -/
def opposite : Port → Port
  | .a => .b
  | .b => .a

/-- Port numbers on the wire: 0 for A, 1 for B (R5). -/
def portCode : Port → Byte
  | .a => 0
  | .b => 1

namespace PerPort

/-- The item of port `p`. -/
def get {α : Type} (x : PerPort α) : Port → α
  | .a => x.a
  | .b => x.b

/-- Replace the item of port `p`. -/
def set {α : Type} (x : PerPort α) : Port → α → PerPort α
  | .a, v => { x with a := v }
  | .b, v => { x with b := v }

/-- The same item on both ports. -/
def both {α : Type} (v : α) : PerPort α := ⟨v, v⟩

end PerPort

/-- The two banks of the screening program (R34). -/
inductive BankId where
  | bank0
  | bank1
deriving DecidableEq, Repr

/-- The bank that is not `k` (R34). -/
def BankId.other : BankId → BankId
  | .bank0 => .bank1
  | .bank1 => .bank0

/-- The bank's number on the wire. -/
def BankId.code : BankId → Byte
  | .bank0 => 0
  | .bank1 => 1

/-! ## Frames -/

/-- A stored frame: the record that names its blocks and its port of arrival.  Before screening this is all a frame
descriptor holds (R10, R20). -/
structure Descriptor where
  /-- ingress port (R20); the port whose share the blocks count against (R18) -/
  ingress : Port
  /-- total length (R20) -/
  total : Nat
  /-- block list, in the order claimed (R20) -/
  blocks : List BlockId
deriving DecidableEq, Repr

/-- Width of an entry's window (R39). -/
inductive Width where
  | one
  | two
  | four
deriving DecidableEq, Repr

/-- A sample (R44): masked window value, absolute offset, width and mask. -/
structure Sample where
  value : Word
  offset : Nat
  width : Width
  mask : Word
deriving DecidableEq, Repr

/-- The four sample slots of a walk or of a screening result (R44). -/
abbrev Slots := Vector (Option Sample) 4

/-- Verdict of a walk (R47, R60). -/
inductive Verdict where
  | accept
  | drop
deriving DecidableEq, Repr

/-- A frame descriptor after its walk: class, verdict and sample slots have joined it (R20, R62). -/
structure Screened where
  desc : Descriptor
  verdict : Verdict
  cls : ClassId
  slots : Slots
deriving DecidableEq, Repr

/-- A frame that the part originates: header fields of R16 and the payload.  Its flags are 0, its length field is the
payload's length and its check is computed (R16). -/
structure Originated where
  dest : Byte
  source : Byte
  ftype : Byte
  seq : Half
  payload : List Byte
deriving DecidableEq, Repr

/-! ## Link state, receivers, transmitters -/

/-- A port's recorded link state (R4). -/
inductive Link where
  | down
  | up
deriving DecidableEq, Repr

/-- The blocks that have yet to take a change to DOWN of a port (R4: it reaches them "as separate events"). -/
structure DownEvents where
  receiver : Bool
  transmitter : Bool
  frameStore : Bool
  agent : Bool
  noticeSender : Bool
deriving DecidableEq, Repr

/-- No block has a change to DOWN to take. -/
def DownEvents.none : DownEvents := ⟨false, false, false, false, false⟩

/-- Link state of one port (R4). -/
structure LinkState where
  recorded : Link
  lastChange : Word
  /-- changes to DOWN not yet taken by their blocks -/
  down : DownEvents
deriving DecidableEq, Repr

/-- The frame in progress at a receiver (R6, section 1.3): bytes taken, blocks claimed, running check over the bytes
taken (the CRC register of R174). -/
structure Reception where
  count : Nat
  blocks : List BlockId
  check : Word
deriving DecidableEq, Repr

/-- State of a port receiver (R6). -/
inductive Receiver where
  | down
  | idle
  | receiving (f : Reception)
  | discarding
deriving DecidableEq, Repr

/-- A frame in transmission, by kind (R13). -/
inductive Sending where
  | response (f : Originated)
  | notice (f : Originated)
  | forwarded (d : Screened)
deriving DecidableEq, Repr

/-- State of a port transmitter (R13). -/
inductive Transmitter where
  | down
  | idle
  | sending (f : Sending)
deriving DecidableEq, Repr

/-- How the last frame that a transmitter ended stands on the line.  The model's own record of the port's output. -/
inductive LineOut where
  /-- nothing sent since power-on -/
  | nothing
  /-- a whole frame, check field included (R14) -/
  | sent (bytes : List Byte)
  /-- ended with an abort indication at a RESTART (R13) -/
  | aborted
  /-- abandoned at a link change to DOWN (R15) -/
  | abandoned
deriving DecidableEq, Repr

/-! ## Frame store -/

/-- The frame store (R17..R22). -/
structure FrameStore where
  /-- bytes of the pool: block `k`'s byte `i` at address `64 * k + i`; strictly rising, no listed zero -/
  bytes : List Host.Cell
  /-- free list (R17) -/
  free : List BlockId
  /-- share counts (R18) -/
  share : PerPort Nat
  /-- ingress ready lists, oldest first (R21) -/
  ready : PerPort (List Descriptor)
  /-- forward queues, oldest first (R22) -/
  forward : PerPort (List Screened)
  /-- purge requests posted by the disposition unit and not yet taken (R109, R29) -/
  purges : List ClassId
deriving DecidableEq, Repr

/-! ## The screening program -/

/-- What an entry's offset counts from (R39). -/
inductive Base where
  | frame
  | cursor
deriving DecidableEq, Repr

/-- An entry's comparison (R43). -/
inductive Test where
  | always
  | equal
  | notEqual
  | below
  | notBelow
deriving DecidableEq, Repr

/-- An entry's action (R47). -/
inductive Action where
  | next
  | accept
  | drop
deriving DecidableEq, Repr

/-- An entry's cursor mode (R45). -/
inductive CursorMode where
  | none
  | addConstant
  | addValue
deriving DecidableEq, Repr

/-- An entry (R39).  The two arguments are kept as the bytes written, since their unused bits are stored and returned
(R40, R175). -/
structure Entry where
  base : Base
  offset : Fin 508
  width : Width
  mask : Word
  test : Test
  operand : Word
  matchAction : Action
  matchArg : Byte
  missAction : Action
  missArg : Byte
  extract : Option (Fin 4)
  cursorMode : CursorMode
  cursorConst : Byte
deriving DecidableEq, Repr

/-- Fault disposition of a bank header (R35). -/
inductive FaultDisposition where
  | forwardUnclassified
  | dropUnclassified
deriving DecidableEq, Repr

/-- A bank header (R35). -/
structure Header where
  length : Fin 257
  entryA : Fin 256
  entryB : Fin 256
  budget : Nat
  faultDisposition : FaultDisposition
deriving DecidableEq, Repr

/-- A bank (R34). -/
structure Bank where
  header : Header
  entries : Vector Entry 256
deriving DecidableEq, Repr

/-- The power-on entry (R38). -/
def Entry.powerOn : Entry :=
  { base := .frame, offset := 0, width := .one, mask := 0, test := .always, operand := 0,
    matchAction := .next, matchArg := 0, missAction := .next, missArg := 0, extract := none,
    cursorMode := .none, cursorConst := 0 }

/-- The power-on header (R38). -/
def Header.powerOn : Header :=
  { length := 0, entryA := 0, entryB := 0, budget := 32, faultDisposition := .forwardUnclassified }

/-- The power-on contents of a bank (R38). -/
def Bank.powerOn : Bank := { header := .powerOn, entries := Vector.replicate 256 .powerOn }

/-- The pair of banks. -/
structure Banks where
  bank0 : Bank
  bank1 : Bank
deriving DecidableEq, Repr

/-! ## Screening engine -/

/-- Fault kinds of a walk (R61). -/
inductive FaultKind where
  | stepBudget
  | windowRange
  | cursorRange
  | targetRange
deriving DecidableEq, Repr

/-- Walk state (R53, R55).  `bank` and `header` are those read at the take; they serve the whole walk. -/
structure Walk where
  bank : BankId
  header : Header
  /-- current entry index -/
  entry : Nat
  cursor : Nat
  steps : Nat
  slots : Slots
deriving DecidableEq, Repr

/-- Engine state with the frame in hand (R53). -/
inductive Phase where
  | idle
  | walking (d : Descriptor) (w : Walk)
  /-- the walk's result is in the descriptor; fault kind and steps used complete the screening result (R60, R61) -/
  | holding (d : Screened) (fault : Option FaultKind) (stepsUsed : Nat)
deriving DecidableEq, Repr

/-- The screening engine (R53). -/
structure Engine where
  phase : Phase
  activeBank : BankId
  lastServed : Port
  /-- a switch request posted by the table service that the engine has not yet taken (R65) -/
  switchPosted : Bool
  /-- the posted request found the engine IDLE with a descriptor waiting, so one take may still be taken before it (R65;
  DEDUCED, notes/assumptions/27.md) -/
  takeMayPrecede : Bool
  /-- switch pending (R53) -/
  switchPending : Bool
deriving DecidableEq, Repr

/-! ## Table service -/

/-- Mode of a COMMIT (R126). -/
inductive CommitMode where
  | keep
  | copy
deriving DecidableEq, Repr

/-- State of the table service (R118), with the mode of the COMMIT in progress. -/
inductive TableState where
  | idle
  | verifying
  | switchPending (m : CommitMode)
  | copying
deriving DecidableEq, Repr

/-- Reason of a failed verification (R49, R123). -/
inductive FailReason where
  | targetRange
  | entryRange
  | windowRange
deriving DecidableEq, Repr

/-- Verify state of the shadow bank (R123). -/
inductive VerifyState where
  | unverified
  | passed
  | failed (index : Nat) (reason : FailReason)
deriving DecidableEq, Repr

/-- A result that the table service reports to the management agent (R125, R128, R129). -/
inductive Report where
  | verified (v : VerifyState)
  | committed (active : BankId)
deriving DecidableEq, Repr

/-- The table service (R118). -/
structure TableService where
  banks : Banks
  state : TableState
  verify : VerifyState
  /-- results reported and not yet taken by the agent, oldest first -/
  reports : List Report
deriving DecidableEq, Repr

/-! ## Monitor unit -/

/-- Kind of a monitor (R69). -/
inductive MonitorKind where
  | above
  | below
  | stale
deriving DecidableEq, Repr

/-- Consequence of a monitor (R69). -/
inductive Consequence where
  | note
  | mark
  | substitute
  | block
deriving DecidableEq, Repr

/-- Configuration record (R69). -/
structure MonitorConfig where
  cls : ClassId
  kind : MonitorKind
  slot : Fin 4
  threshold : Word
  hysteresis : Word
  tripDelay : Half
  recoveryTime : Half
  consequence : Consequence
  substituteValue : Word
  latchLimit : Fin 16
  decayInterval : Half
  latchExpiry : Half
  reportAlerts : Bool
deriving DecidableEq, Repr

/-- State of a monitor (R70). -/
inductive MonitorState where
  | off
  | normal
  | alert
  | tripped
  | recovering
  | latched
deriving DecidableEq, Repr

/-- A timer: stopped (`none`), or running with the ticks to its expiry; at `some 0` its expiry has fallen and the
owner has yet to take it (R72, R157, R158). -/
abbrev Timer := Option Nat

/-- Runtime record (R70). -/
structure MonitorRuntime where
  state : MonitorState
  latchCounter : Nat
  lastSample : Option Word
  delay : Timer
  recovery : Timer
  silence : Timer
  decay : Timer
  expiry : Timer
deriving DecidableEq, Repr

/-- A monitor: its two records. -/
structure Monitor where
  config : MonitorConfig
  run : MonitorRuntime
deriving DecidableEq, Repr

/-- The power-on configuration record (R69). -/
def MonitorConfig.powerOn : MonitorConfig :=
  { cls := 0, kind := .above, slot := 0, threshold := 0, hysteresis := 0, tripDelay := 0, recoveryTime := 0,
    consequence := .note, substituteValue := 0, latchLimit := 0, decayInterval := 1, latchExpiry := 0,
    reportAlerts := false }

/-- The runtime record of an OFF monitor (R70, R71). -/
def MonitorRuntime.off : MonitorRuntime :=
  { state := .off, latchCounter := 0, lastSample := none, delay := none, recovery := none, silence := none,
    decay := none, expiry := none }

/-! ## Disposition unit -/

/-- Override of a class (R105). -/
inductive Override where
  | auto
  | forcePass
  | forceBlock
deriving DecidableEq, Repr

/-- Effective disposition of a class (R105). -/
inductive Disposition where
  | pass
  | mark
  | substitute
  | block
deriving DecidableEq, Repr

/-- An entry of an engaged list (R105). -/
structure Engaged where
  monitor : MonitorId
  consequence : Consequence
  slot : Fin 4
deriving DecidableEq, Repr

/-- What the disposition unit holds for a class (R105). -/
structure ClassState where
  override : Override
  engaged : List Engaged
  effective : Disposition
deriving DecidableEq, Repr

/-! ## Event queue and notice sender -/

/-- Kinds of event record (R134). -/
inductive EventKind where
  | monitorAlert
  | monitorTrip
  | monitorLatch
  | monitorClear
  | monitorRelease
  | dispositionChange
  | screenFault
  | frameDiscard
  | linkDown
  | linkUp
  | commitDone
  | eventsLost
  | restarted
deriving DecidableEq, Repr

/-- An event record (R134). -/
structure EventRecord where
  seq : Half
  time : Word
  kind : EventKind
  subject : Byte
  repeats : Nat
  qualifier : Byte
  detail : Word
deriving DecidableEq, Repr

/-- A record as the queue holds it: `carried` says that a NOTICE frame formed since the last reset has carried it
(R142, retransmissions). -/
structure Queued where
  record : EventRecord
  carried : Bool
deriving DecidableEq, Repr

/-- The event queue (R134, R136, R137): its records oldest first are `outstanding ++ unsent`. -/
structure EventQueue where
  outstanding : List Queued
  unsent : List Queued
  nextSeq : Half
  lost : Nat
deriving DecidableEq, Repr

/-- State of the notice sender (R140). -/
inductive NoticeState where
  | off
  | active
  | stalled
deriving DecidableEq, Repr

/-- A notice destination (R139). -/
structure Destination where
  address : Byte
  port : Port
deriving DecidableEq, Repr

/-- The NOTICE frame held by the notice sender, waiting or in transmission (R139, R143), and the port whose arbiter
has it. -/
structure NoticeFrame where
  frame : Originated
  port : Port
  inTransmission : Bool
deriving DecidableEq, Repr

/-- The notice sender (R139). -/
structure NoticeSender where
  state : NoticeState
  destination : Option Destination
  /-- retransmit timeout in units of 10 ms, 1..255 -/
  timeout : Nat
  timer : Timer
  retries : Nat
  /-- resend point: the sequence number of the oldest due record -/
  resend : Option Half
  frame : Option NoticeFrame
  /-- NOTICE_ACK frames handed over by the receivers and not yet read, oldest first (R10, R17) -/
  inbox : PerPort (List Descriptor)
deriving DecidableEq, Repr

/-! ## Counter block -/

/-- A counter (R151). -/
structure Counter where
  value : BitVec 31
  overflow : Bool
deriving DecidableEq, Repr

/-- A counter at 0 with a clear flag. -/
def Counter.zero : Counter := ⟨0, false⟩

/-- The counters of a port group, in the order of R152. -/
inductive PortCounter where
  | rxGood
  | rxCheckError
  | rxLengthError
  | rxNoBuffer
  | rxToSelfOther
  | txFrames
  | txQueueFull
  | txFlushed
deriving DecidableEq, Repr

/-- The counters of a class group, in the order of R152. -/
inductive ClassCounter where
  | screened
  | forwarded
  | programDropped
  | blocked
  | marked
  | substituted
deriving DecidableEq, Repr

/-- The counters of the MGMT group, in the order of R152. -/
inductive MgmtCounter where
  | executed
  | notPermitted
  | portRefused
  | malformed
  | queueDiscard
  | duplicate
deriving DecidableEq, Repr

/-- The counters of the NOTICE group, in the order of R152. -/
inductive NoticeCounter where
  | framesSent
  | retransmissions
  | acksIgnored
deriving DecidableEq, Repr

/-- A counter's name: its group and its place there (R152).  The SCREEN group has one counter per fault kind. -/
inductive CounterId where
  | port (p : Port) (c : PortCounter)
  | cls (k : ClassId) (c : ClassCounter)
  | screen (f : FaultKind)
  | mgmt (c : MgmtCounter)
  | notice (c : NoticeCounter)
deriving DecidableEq, Repr

/-- The 221 counters in their 37 groups (R152). -/
structure Counters where
  port : PerPort (Vector Counter 8)
  cls : Vector (Vector Counter 6) 32
  screen : Vector Counter 4
  mgmt : Vector Counter 6
  notice : Vector Counter 3
deriving DecidableEq, Repr

/-- Every counter at 0 (R151). -/
def Counters.zero : Counters :=
  { port := .both (Vector.replicate 8 .zero), cls := Vector.replicate 32 (Vector.replicate 6 .zero),
    screen := Vector.replicate 4 .zero, mgmt := Vector.replicate 6 .zero, notice := Vector.replicate 3 .zero }

/-! ## Management agent -/

/-- A request of the request queue (R159), with the sequence field its response repeats (R16). -/
structure Request where
  port : Port
  source : Byte
  seq : Half
  tag : Half
  command : Byte
  args : List Byte
  frame : Descriptor
deriving DecidableEq, Repr

/-- A completed response held in a slot (R159). -/
structure HeldResponse where
  port : Port
  frame : Originated
  inTransmission : Bool
deriving DecidableEq, Repr

/-- A pending result (R159).  `slotReserved` says whether its response slot is still reserved (R166). -/
structure PendingResult where
  port : Port
  source : Byte
  seq : Half
  tag : Half
  command : Byte
  slotReserved : Bool
deriving DecidableEq, Repr

/-- An entry of the reply cache (R159). -/
structure CacheEntry where
  port : Port
  source : Byte
  tag : Half
  response : Originated
deriving DecidableEq, Repr

/-- The management agent (R159). -/
structure Agent where
  ownAddress : Byte
  /-- management port set -/
  portSet : PerPort Bool
  /-- management source list -/
  sources : List Byte
  /-- MGMT_REQUEST frames handed over by the receivers and not yet taken, oldest first (R10, R159) -/
  inbox : PerPort (List Descriptor)
  /-- request queue, oldest first -/
  requests : List Request
  /-- the slots that hold a completed response, in the order of completion (R25) -/
  responses : List HeldResponse
  /-- pending results, oldest first; each with `slotReserved` takes up a slot -/
  pendingResults : List PendingResult
  /-- reply cache, oldest first -/
  cache : List CacheEntry
deriving DecidableEq, Repr

/-! ## The whole part -/

/-- The state of the part. -/
structure State where
  /-- commands waiting, first in first out -/
  pending : List Instr
  link : PerPort LinkState
  receivers : PerPort Receiver
  transmitters : PerPort Transmitter
  lineOut : PerPort LineOut
  store : FrameStore
  /-- run counts of the egress arbiters (R26) -/
  runCount : PerPort Nat
  engine : Engine
  tables : TableService
  monitors : Vector Monitor 48
  classes : Vector ClassState 32
  events : EventQueue
  notice : NoticeSender
  counters : Counters
  /-- time stamp (R156) -/
  time : Word
  agent : Agent
  /-- the model's own: how many free values have been used -/
  freeUses : Nat
deriving DecidableEq, Repr

/-- Every block of the pool. -/
def allBlocks : List BlockId := List.finRange 96

/-- The frame store after a power-on reset (R17, R18, R21, R22). -/
def FrameStore.powerOn : FrameStore :=
  { bytes := [], free := allBlocks, share := .both 0, ready := .both [], forward := .both [], purges := [] }

/-- The screening engine after a power-on reset (R53). -/
def Engine.powerOn : Engine :=
  { phase := .idle, activeBank := .bank0, lastServed := .b, switchPosted := false, takeMayPrecede := false,
    switchPending := false }

/-- The table service after a power-on reset (R132). -/
def TableService.powerOn : TableService :=
  { banks := ⟨.powerOn, .powerOn⟩, state := .idle, verify := .unverified, reports := [] }

/-- A monitor after a power-on reset (R69, R70). -/
def Monitor.powerOn : Monitor := { config := .powerOn, run := .off }

/-- A class after a power-on reset (R105). -/
def ClassState.powerOn : ClassState := { override := .auto, engaged := [], effective := .pass }

/-- The event queue a reset leaves: the RESTARTED record alone, unsent, with sequence 0 and time stamp 0 (R135). -/
def EventQueue.restarted (subject qualifier : Byte) (detail : Word) : EventQueue :=
  { outstanding := []
    unsent := [{ record := { seq := 0, time := 0, kind := .restarted, subject := subject, repeats := 1,
                             qualifier := qualifier, detail := detail }
                 carried := false }]
    nextSeq := 1
    lost := 0 }

/-- The notice sender after a power-on reset (R139). -/
def NoticeSender.powerOn : NoticeSender :=
  { state := .off, destination := none, timeout := 20, timer := none, retries := 0, resend := none, frame := none,
    inbox := .both [] }

/-- The management agent after a power-on reset (R159). -/
def Agent.powerOn : Agent :=
  { ownAddress := 254, portSet := ⟨true, false⟩, sources := [], inbox := .both [], requests := [], responses := [],
    pendingResults := [], cache := [] }

/-- The part right after a power-on reset; the link-state inputs are then taken as changes (R4), which are commands. -/
def State.reset : State :=
  { pending := []
    link := .both { recorded := .down, lastChange := 0, down := .none }
    receivers := .both .down
    transmitters := .both .down
    lineOut := .both .nothing
    store := .powerOn
    runCount := .both 0
    engine := .powerOn
    tables := .powerOn
    monitors := Vector.replicate 48 .powerOn
    classes := Vector.replicate 32 .powerOn
    events := .restarted 0 1 0
    notice := .powerOn
    counters := .zero
    time := 0
    agent := .powerOn
    freeUses := 0 }

end Sys2Proof.Machine
end

