-- ==== Sys2Proof/Machine/Bytes.lean ====
section
/-! DEFINITION. Multi-byte fields: most significant byte first (12_wire_formats.md), and reading them from a list. -/

namespace Sys2Proof.Machine

/-- The two bytes of a 2-byte field, most significant first. -/
def be16 (v : Half) : List Byte := [v.extractLsb' 8 8, v.extractLsb' 0 8]

/-- The four bytes of a 4-byte field, most significant first. -/
def be32 (v : Word) : List Byte :=
  [v.extractLsb' 24 8, v.extractLsb' 16 8, v.extractLsb' 8 8, v.extractLsb' 0 8]

/-- The four bytes of the check field: least significant first (R174). -/
def le32 (v : Word) : List Byte :=
  [v.extractLsb' 0 8, v.extractLsb' 8 8, v.extractLsb' 16 8, v.extractLsb' 24 8]

/-- One byte holding a number. -/
def byteOf (n : Nat) : Byte := BitVec.ofNat 8 n

/-- Byte `i` of a list; 0 beyond its end. -/
def byteAt (bs : List Byte) (i : Nat) : Byte := bs.getD i 0

/-- The 2-byte field at position `i`. -/
def halfAt (bs : List Byte) (i : Nat) : Half := byteAt bs i ++ byteAt bs (i + 1)

/-- The 4-byte field at position `i`. -/
def wordAt (bs : List Byte) (i : Nat) : Word :=
  byteAt bs i ++ byteAt bs (i + 1) ++ byteAt bs (i + 2) ++ byteAt bs (i + 3)

/-- The 4-byte field at position `i`, least significant byte first (R174). -/
def wordAtLe (bs : List Byte) (i : Nat) : Word :=
  byteAt bs (i + 3) ++ byteAt bs (i + 2) ++ byteAt bs (i + 1) ++ byteAt bs i

/-- A bit field of a byte as a number: `width` bits from bit `low` up. -/
def field (b : Byte) (low width : Nat) : Nat := (b.toNat / 2 ^ low) % 2 ^ width

/-- A 1-byte flag. -/
def flagByte (b : Bool) : Byte := if b then 1 else 0

end Sys2Proof.Machine
end

