-- ==== Sys2Proof/Machine/Memory.lean ====
section
/-! DEFINITION. The bytes of the frame store's 96 blocks of 64 bytes (R17): address `64 * k + i` is byte `i` of block
`k`.  A list of address and byte pairs in one canonical form. -/

namespace Sys2Proof.Machine

/-- What a byte that nothing has written reads as.  DESIGN CHOICE (notes/assumptions/2.md). -/
def blankByte : Byte := 0

/-- Bytes in the pool (R17). -/
def poolSize : Nat := 96 * Config.blockSize

/-- Read one byte. -/
def readCells : List Host.Cell → Nat → Byte
  | [], _ => blankByte
  | (k, v) :: rest, a => if a = k then v else if a < k then blankByte else readCells rest a

/-- Write one byte, keeping the canonical form. -/
def writeCells : List Host.Cell → Nat → Byte → List Host.Cell
  | [], a, v => if v = blankByte then [] else [(a, v)]
  | (k, w) :: rest, a, v =>
    if a < k then (if v = blankByte then (k, w) :: rest else (a, v) :: (k, w) :: rest)
    else if a = k then (if v = blankByte then rest else (k, v) :: rest)
    else (k, w) :: writeCells rest a v

/-- Every address of the list is at least `low`, rising strictly, inside the pool, and none is listed at the blank
value. -/
def cellsFrom (low : Nat) : List Host.Cell → Bool
  | [] => true
  | (k, v) :: rest => decide (low ≤ k) && decide (k < poolSize) && decide (v ≠ blankByte) && cellsFrom (k + 1) rest

/-- The canonical form. -/
def Memory.wf (cells : List Host.Cell) : Bool := cellsFrom 0 cells

/-- The address of byte position `i` of a stored frame: the block that holds it and the place in that block (R7). -/
def frameAddress (d : Descriptor) (i : Nat) : Option Nat :=
  (d.blocks[i / Config.blockSize]?).map fun b => Config.blockSize * b.val + i % Config.blockSize

/-- Byte position `i` of a stored frame. -/
def frameByte (cells : List Host.Cell) (d : Descriptor) (i : Nat) : Byte :=
  match frameAddress d i with
  | some a => readCells cells a
  | none => blankByte

/-- The bytes of a stored frame, header, payload and check. -/
def frameBytes (cells : List Host.Cell) (d : Descriptor) : List Byte :=
  (List.range d.total).map (frameByte cells d)

/-- Write byte position `i` of a stored frame. -/
def writeFrameByte (d : Descriptor) (i : Nat) (v : Byte) (cells : List Host.Cell) : List Host.Cell :=
  match frameAddress d i with
  | some a => writeCells cells a v
  | none => cells

/-- Write a run of bytes of a stored frame from position `i` on. -/
def writeFrameBytes (d : Descriptor) : Nat → List Byte → List Host.Cell → List Host.Cell
  | _, [], cells => cells
  | i, v :: vs, cells => writeFrameBytes d (i + 1) vs (writeFrameByte d i v cells)

end Sys2Proof.Machine
end

