-- ==== Sys2Proof/Machine/Flags.lean ====
section
/-! DEFINITION. The frame's flags byte and its check field: the two things of a frame that the part computes
(R3, R112, R114, R174), and the bytes of a frame the part originates (R16). -/

namespace Sys2Proof.Machine

/-- One bit into the check register (R174). -/
def crcBit (r : Word) (bit : Bool) : Word :=
  if r.getLsbD 0 != bit then (r >>> 1) ^^^ 0xEDB88320 else r >>> 1

/-- One byte into the check register, least significant bit first (R174). -/
def crcByte (r : Word) (b : Byte) : Word :=
  (List.range 8).foldl (fun r i => crcBit r (b.getLsbD i)) r

/-- The check register's start value (R174). -/
def crcStart : Word := 0xFFFFFFFF

/-- The check value of a run of bytes (R174). -/
def crc (bytes : List Byte) : Word := ~~~ (bytes.foldl crcByte crcStart)

/-- The flag MARKED: bit 7 of the flags byte (section 12.1). -/
def markedFlag : Byte := 0x80

/-- The flag SUBSTITUTED: bit 6 of the flags byte (section 12.1). -/
def substitutedFlag : Byte := 0x40

/-- Position of the flags byte (section 12.1). -/
def flagsPosition : Nat := 3

/-- Set bits of a stored frame's flags byte (R112, R114). -/
def setFrameFlags (d : Descriptor) (bits : Byte) (cells : List Host.Cell) : List Host.Cell :=
  writeFrameByte d flagsPosition (frameByte cells d flagsPosition ||| bits) cells

/-- Recompute a stored frame's check field over its header and payload as they stand (R112, R114, R174). -/
def recomputeCheck (d : Descriptor) (cells : List Host.Cell) : List Host.Cell :=
  let body := (List.range (d.total - 4)).map (frameByte cells d)
  writeFrameBytes d (d.total - 4) (le32 (crc body)) cells

/-- Header and payload of a frame the part originates (R16): flags clear, length the number of payload bytes. -/
def Originated.body (f : Originated) : List Byte :=
  [f.dest, f.source, f.ftype, 0] ++ be16 f.seq ++ be16 (BitVec.ofNat 16 f.payload.length) ++ f.payload

/-- The frame as it is sent, check field included (R13, R16, R174). -/
def Originated.bytes (f : Originated) : List Byte := f.body ++ le32 (crc f.body)

end Sys2Proof.Machine
end

