-- ==== Sys2Proof/Machine/Operands.lean ====
section
/-! DEFINITION. The wire formats of chapter 12: codes, and the records that requests carry and responses return.
A decoder answers `none` where a field lies outside its legal values (R35, R39, R69, R175). -/

namespace Sys2Proof.Machine

/-! ## Frame types (R2) -/

def typeRequest : Byte := 0xF0
def typeResponse : Byte := 0xF1
def typeNotice : Byte := 0xF2
def typeNoticeAck : Byte := 0xF3

/-! ## Command codes (section 12.2) -/

def codeIdentify : Byte := 0x01
def codeSetAddress : Byte := 0x02
def codeSetAccess : Byte := 0x03
def codeReadHeader : Byte := 0x10
def codeWriteHeader : Byte := 0x11
def codeReadEntries : Byte := 0x12
def codeWriteEntries : Byte := 0x13
def codeVerify : Byte := 0x14
def codeCommit : Byte := 0x15
def codeReadMonitor : Byte := 0x20
def codeWriteMonitor : Byte := 0x21
def codeStartMonitor : Byte := 0x22
def codeStopMonitor : Byte := 0x23
def codeReleaseMonitor : Byte := 0x24
def codeSetOverride : Byte := 0x28
def codeReadStatus : Byte := 0x30
def codeReadCounters : Byte := 0x31
def codeSetNotice : Byte := 0x38
def codeResumeNotice : Byte := 0x39
def codeRestart : Byte := 0x3F

/-- The command codes that name a command (section 12.2). -/
def commandCodes : List Byte :=
  [codeIdentify, codeSetAddress, codeSetAccess, codeReadHeader, codeWriteHeader, codeReadEntries, codeWriteEntries,
   codeVerify, codeCommit, codeReadMonitor, codeWriteMonitor, codeStartMonitor, codeStopMonitor, codeReleaseMonitor,
   codeSetOverride, codeReadStatus, codeReadCounters, codeSetNotice, codeResumeNotice, codeRestart]

/-! ## Status codes (R167) -/

/-- Status of a response. -/
inductive Status where
  | done
  | busy
  | notPermitted
  | badCommand
  | badArgument
  | notVerified
  | monitorActive
  | notLatched
  | lockout
deriving DecidableEq, Repr

/-- Wire code of a status (R167). -/
def statusCode : Status → Byte
  | .done => 0
  | .busy => 1
  | .notPermitted => 2
  | .badCommand => 3
  | .badArgument => 4
  | .notVerified => 5
  | .monitorActive => 6
  | .notLatched => 7
  | .lockout => 8

/-! ## Small fields -/

/-- A number below a bound, or none. -/
def below (bound n : Nat) : Option (Fin bound) := if h : n < bound then some ⟨n, h⟩ else none

/-- A monitor number of a request (R88). -/
def monitorOf (b : Byte) : Option MonitorId := below 48 b.toNat

/-- A class number of a request (R110). -/
def classOf (b : Byte) : Option ClassId := below 32 b.toNat

/-- A port code: 0 for A, 1 for B. -/
def portOf (b : Byte) : Option Port := if b = 0 then some .a else if b = 1 then some .b else none

/-- A yes-or-no code: 0 no, 1 yes. -/
def boolOf (b : Byte) : Option Bool := if b = 0 then some false else if b = 1 then some true else none

/-- A bank selector: 0 ACTIVE (`true`), 1 SHADOW (`false`) (section 12.2). -/
def selectorOf (b : Byte) : Option Bool := if b = 0 then some true else if b = 1 then some false else none

/-- A COMMIT mode: 1 KEEP, 2 COPY (section 12.2). -/
def commitModeOf (b : Byte) : Option CommitMode := if b = 1 then some .keep else if b = 2 then some .copy else none

/-- An override code (section 12.2). -/
def overrideOf (b : Byte) : Option Override :=
  if b = 0 then some .auto else if b = 1 then some .forcePass else if b = 2 then some .forceBlock else none

/-- Wire code of an override. -/
def overrideCode : Override → Nat
  | .auto => 0
  | .forcePass => 1
  | .forceBlock => 2

/-- Wire code of an effective disposition (section 12.2). -/
def dispositionCode : Disposition → Nat
  | .pass => 0
  | .mark => 1
  | .substitute => 2
  | .block => 3

/-- Wire code of a monitor state (section 12.2). -/
def monitorStateCode : MonitorState → Byte
  | .off => 0
  | .normal => 1
  | .alert => 2
  | .tripped => 3
  | .recovering => 4
  | .latched => 5

/-- Wire code of a table service state (section 12.2). -/
def tableStateCode : TableState → Byte
  | .idle => 0
  | .verifying => 1
  | .switchPending _ => 2
  | .copying => 3

/-- Wire code of a notice sender state (section 12.2). -/
def noticeStateCode : NoticeState → Byte
  | .off => 0
  | .active => 1
  | .stalled => 2

/-- Wire code of a commit mode: also the qualifier of COMMIT_DONE (R130). -/
def commitModeCode : CommitMode → Byte
  | .keep => 1
  | .copy => 2

/-- Wire code of a failure reason (section 12.2). -/
def failReasonCode : FailReason → Byte
  | .targetRange => 1
  | .entryRange => 2
  | .windowRange => 3

/-- Verify state, failure index and failure reason as VERIFY returns them and READ_STATUS reports them; index and
reason are 0 unless FAILED (section 12.2). -/
def verifyBytes : VerifyState → List Byte
  | .unverified => [0, 0, 0, 0]
  | .passed => [1, 0, 0, 0]
  | .failed index reason => [2] ++ be16 (BitVec.ofNat 16 index) ++ [failReasonCode reason]

/-- Qualifier of a SCREEN_FAULT record (R63). -/
def faultCode : FaultKind → Byte
  | .stepBudget => 1
  | .windowRange => 2
  | .cursorRange => 3
  | .targetRange => 4

/-! ## Bank header (section 12.3, R35) -/

/-- The six bytes of a header. -/
def headerBytes (h : Header) : List Byte :=
  be16 (BitVec.ofNat 16 h.length.val) ++
    [byteOf h.entryA.val, byteOf h.entryB.val, byteOf h.budget,
     match h.faultDisposition with
     | .forwardUnclassified => 0
     | .dropUnclassified => 1]

/-- A header whose every field is legal (R35), or none. -/
def headerOf (bs : List Byte) : Option Header := do
  let length ← below 257 (halfAt bs 0).toNat
  let budget := (byteAt bs 4).toNat
  let disposition ←
    if byteAt bs 5 = 0 then some FaultDisposition.forwardUnclassified
    else if byteAt bs 5 = 1 then some FaultDisposition.dropUnclassified
    else none
  if 1 ≤ budget ∧ budget ≤ 64 then
    some { length := length, entryA := (byteAt bs 2).toFin, entryB := (byteAt bs 3).toFin, budget := budget,
           faultDisposition := disposition }
  else none

/-! ## Entry (section 12.3, R39) -/

def widthCode : Width → Nat
  | .one => 0
  | .two => 1
  | .four => 2

def widthOf : Nat → Option Width
  | 0 => some .one
  | 1 => some .two
  | 2 => some .four
  | _ => none

def testCode : Test → Nat
  | .always => 0
  | .equal => 1
  | .notEqual => 2
  | .below => 3
  | .notBelow => 4

def testOf : Nat → Option Test
  | 0 => some .always
  | 1 => some .equal
  | 2 => some .notEqual
  | 3 => some .below
  | 4 => some .notBelow
  | _ => none

def cursorModeCode : CursorMode → Nat
  | .none => 0
  | .addConstant => 1
  | .addValue => 2

def cursorModeOf : Nat → Option CursorMode
  | 0 => some .none
  | 1 => some .addConstant
  | 2 => some .addValue
  | _ => none

def actionCode : Action → Nat
  | .next => 0
  | .accept => 1
  | .drop => 2

def actionOf : Nat → Option Action
  | 0 => some .next
  | 1 => some .accept
  | 2 => some .drop
  | _ => none

def extractCode : Option (Fin 4) → Nat
  | none => 0
  | some i => i.val + 1

def extractOf : Nat → Option (Option (Fin 4))
  | 0 => some none
  | n + 1 => (below 4 n).map some

/-- The class that an ACCEPT or DROP argument names: bits 4..0 (R175). -/
def argClass (arg : Byte) : ClassId := ⟨arg.toNat % 32, Nat.mod_lt _ (by decide)⟩

/-- An action's argument is legal unless it is ACCEPT with class 0 (R39). -/
def legalArg (act : Action) (arg : Byte) : Bool :=
  match act with
  | .accept => decide (argClass arg ≠ 0)
  | _ => true

/-- The entry holds a legal value in each of its fields (R39); the fields' types bound the rest. -/
def legalEntry (e : Entry) : Bool := legalArg e.matchAction e.matchArg && legalArg e.missAction e.missArg

/-- The sixteen bytes of an entry. -/
def entryBytes (e : Entry) : List Byte :=
  be16 (BitVec.ofNat 16 e.offset.val) ++
    [byteOf ((match e.base with
              | .frame => 0
              | .cursor => 128) + 32 * widthCode e.width + 4 * testCode e.test + cursorModeCode e.cursorMode),
     byteOf (extractCode e.extract)] ++
    be32 e.mask ++ be32 e.operand ++
    [byteOf (4 * actionCode e.matchAction + actionCode e.missAction), e.matchArg, e.missArg, e.cursorConst]

/-- An entry whose every field is legal and whose reserved bits are clear (R39, R175), or none. -/
def entryOf (bs : List Byte) : Option Entry := do
  let offset ← below 508 (halfAt bs 0).toNat
  let b2 := byteAt bs 2
  let width ← widthOf (field b2 5 2)
  let test ← testOf (field b2 2 3)
  let cursorMode ← cursorModeOf (field b2 0 2)
  let extract ← extractOf (byteAt bs 3).toNat
  let b12 := byteAt bs 12
  let matchAction ← actionOf (field b12 2 2)
  let missAction ← actionOf (field b12 0 2)
  let e : Entry :=
    { base := if field b2 7 1 = 0 then .frame else .cursor
      offset := offset, width := width, mask := wordAt bs 4, test := test, operand := wordAt bs 8,
      matchAction := matchAction, matchArg := byteAt bs 13, missAction := missAction, missArg := byteAt bs 14,
      extract := extract, cursorMode := cursorMode, cursorConst := byteAt bs 15 }
  if field b12 4 4 = 0 ∧ legalEntry e = true then some e else none

/-- `n` entries, one after another, each legal, or none. -/
def entriesOf : Nat → List Byte → Option (List Entry)
  | 0, _ => some []
  | n + 1, bs => do
    let e ← entryOf (bs.take 16)
    let es ← entriesOf n (bs.drop 16)
    some (e :: es)

/-! ## Monitor configuration record (section 12.3, R69) -/

def kindCode : MonitorKind → Byte
  | .above => 0
  | .below => 1
  | .stale => 2

def kindOf (b : Byte) : Option MonitorKind :=
  if b = 0 then some .above else if b = 1 then some .below else if b = 2 then some .stale else none

def consequenceCode : Consequence → Byte
  | .note => 0
  | .mark => 1
  | .substitute => 2
  | .block => 3

def consequenceOf (b : Byte) : Option Consequence :=
  if b = 0 then some .note else if b = 1 then some .mark else if b = 2 then some .substitute
  else if b = 3 then some .block else none

/-- Threshold and hysteresis are legal for the kind, and the decay interval is not 0 (R69). -/
def legalConfig (c : MonitorConfig) : Bool :=
  (match c.kind with
   | .above => decide (c.hysteresis.toNat ≤ c.threshold.toNat)
   | .below => decide (c.threshold.toNat + c.hysteresis.toNat ≤ 4294967295)
   | .stale => decide (1 ≤ c.threshold.toNat) && decide (c.threshold.toNat ≤ 65535)) &&
  decide (1 ≤ c.decayInterval.toNat)

/-- The twenty-six bytes of a configuration record. -/
def configBytes (c : MonitorConfig) : List Byte :=
  [byteOf c.cls.val, kindCode c.kind, byteOf c.slot.val, consequenceCode c.consequence] ++
    be32 c.threshold ++ be32 c.hysteresis ++ be16 c.tripDelay ++ be16 c.recoveryTime ++ be32 c.substituteValue ++
    [byteOf c.latchLimit.val] ++ be16 c.decayInterval ++ be16 c.latchExpiry ++ [flagByte c.reportAlerts]

/-- A configuration record whose every field is legal (R69), or none. -/
def configOf (bs : List Byte) : Option MonitorConfig := do
  let cls ← classOf (byteAt bs 0)
  let kind ← kindOf (byteAt bs 1)
  let slot ← below 4 (byteAt bs 2).toNat
  let consequence ← consequenceOf (byteAt bs 3)
  let latchLimit ← below 16 (byteAt bs 20).toNat
  let reportAlerts ← boolOf (byteAt bs 25)
  let c : MonitorConfig :=
    { cls := cls, kind := kind, slot := slot, threshold := wordAt bs 4, hysteresis := wordAt bs 8,
      tripDelay := halfAt bs 12, recoveryTime := halfAt bs 14, consequence := consequence,
      substituteValue := wordAt bs 16, latchLimit := latchLimit, decayInterval := halfAt bs 21,
      latchExpiry := halfAt bs 23, reportAlerts := reportAlerts }
  if legalConfig c = true then some c else none

/-! ## Event record (section 12.4) -/

def eventKindCode : EventKind → Byte
  | .monitorAlert => 1
  | .monitorTrip => 2
  | .monitorLatch => 3
  | .monitorClear => 4
  | .monitorRelease => 5
  | .dispositionChange => 6
  | .screenFault => 7
  | .frameDiscard => 8
  | .linkDown => 9
  | .linkUp => 10
  | .commitDone => 11
  | .eventsLost => 12
  | .restarted => 13

/-- The fourteen bytes of an event record. -/
def eventBytes (r : EventRecord) : List Byte :=
  be16 r.seq ++ be32 r.time ++ [eventKindCode r.kind, r.subject, byteOf r.repeats, r.qualifier] ++ be32 r.detail

/-- The four bytes of a counter: bit 31 the overflow flag, bits 30..0 the value (section 12.2). -/
def counterBytes (c : Counter) : List Byte := be32 (BitVec.ofBool c.overflow ++ c.value)

/-- The four bytes of a monitor timer: 0 stopped, else the milliseconds to its expiry (section 12.2). -/
def timerBytes (t : Timer) : List Byte := be32 (BitVec.ofNat 32 (t.getD 0))

/-- What READ_MONITOR returns of a monitor, after its number (section 12.2). -/
def monitorBytes (m : Monitor) : List Byte :=
  configBytes m.config ++ [monitorStateCode m.run.state, byteOf m.run.latchCounter] ++
    (match m.run.lastSample with
     | none => [0, 0, 0, 0, 0]
     | some v => 1 :: be32 v) ++
    timerBytes m.run.delay ++ timerBytes m.run.recovery ++ timerBytes m.run.silence ++ timerBytes m.run.decay ++
    timerBytes m.run.expiry

end Sys2Proof.Machine
end

