-- ==== Sys2Proof/Machine/Ops.lean ====
section
/-! DEFINITION. The named operations that several blocks share: counting, returning blocks, appending an event,
building and holding responses, executing the head of the request queue. -/

namespace Sys2Proof.Machine

/-! ## Access to per-monitor and per-class state -/

/-- Monitor `m`. -/
def State.monitor (s : State) (m : MonitorId) : Monitor := s.monitors[m]

/-- Replace monitor `m`. -/
def State.setMonitor (s : State) (m : MonitorId) (v : Monitor) : State :=
  { s with monitors := s.monitors.set m.val v m.isLt }

/-- Class `c` at the disposition unit. -/
def State.classState (s : State) (c : ClassId) : ClassState := s.classes[c]

/-- Replace class `c` at the disposition unit. -/
def State.setClass (s : State) (c : ClassId) (v : ClassState) : State :=
  { s with classes := s.classes.set c.val v c.isLt }

/-- Replace the receiver of port `p`. -/
def State.setReceiver (s : State) (p : Port) (r : Receiver) : State :=
  { s with receivers := s.receivers.set p r }

/-- Replace the transmitter of port `p`. -/
def State.setTransmitter (s : State) (p : Port) (t : Transmitter) : State :=
  { s with transmitters := s.transmitters.set p t }

/-- Bank `k` (R34). -/
def State.bank (s : State) (k : BankId) : Bank :=
  match k with
  | .bank0 => s.tables.banks.bank0
  | .bank1 => s.tables.banks.bank1

/-- Replace bank `k`. -/
def State.setBank (s : State) (k : BankId) (b : Bank) : State :=
  match k with
  | .bank0 => { s with tables := { s.tables with banks := { s.tables.banks with bank0 := b } } }
  | .bank1 => { s with tables := { s.tables with banks := { s.tables.banks with bank1 := b } } }

/-- Number of the shadow bank (R34). -/
def State.shadow (s : State) : BankId := s.engine.activeBank.other

/-! ## Counters (R151) -/

/-- Place of a counter in its port group (R152). -/
def portCounterIndex : PortCounter → Fin 8
  | .rxGood => 0
  | .rxCheckError => 1
  | .rxLengthError => 2
  | .rxNoBuffer => 3
  | .rxToSelfOther => 4
  | .txFrames => 5
  | .txQueueFull => 6
  | .txFlushed => 7

/-- Place of a counter in its class group (R152). -/
def classCounterIndex : ClassCounter → Fin 6
  | .screened => 0
  | .forwarded => 1
  | .programDropped => 2
  | .blocked => 3
  | .marked => 4
  | .substituted => 5

/-- Place of a counter in the SCREEN group (R152). -/
def screenCounterIndex : FaultKind → Fin 4
  | .stepBudget => 0
  | .windowRange => 1
  | .cursorRange => 2
  | .targetRange => 3

/-- Place of a counter in the MGMT group (R152). -/
def mgmtCounterIndex : MgmtCounter → Fin 6
  | .executed => 0
  | .notPermitted => 1
  | .portRefused => 2
  | .malformed => 3
  | .queueDiscard => 4
  | .duplicate => 5

/-- Place of a counter in the NOTICE group (R152). -/
def noticeCounterIndex : NoticeCounter → Fin 3
  | .framesSent => 0
  | .retransmissions => 1
  | .acksIgnored => 2

/-- A counter of the counter block. -/
def Counters.get (c : Counters) : CounterId → Counter
  | .port p i => (c.port.get p)[portCounterIndex i]
  | .cls k i => (c.cls[k])[classCounterIndex i]
  | .screen f => c.screen[screenCounterIndex f]
  | .mgmt i => c.mgmt[mgmtCounterIndex i]
  | .notice i => c.notice[noticeCounterIndex i]

/-- Replace one counter of the counter block. -/
def Counters.set (c : Counters) (id : CounterId) (v : Counter) : Counters :=
  match id with
  | .port p i =>
    { c with port := c.port.set p ((c.port.get p).set (portCounterIndex i).val v (portCounterIndex i).isLt) }
  | .cls k i =>
    { c with cls := c.cls.set k.val ((c.cls[k]).set (classCounterIndex i).val v (classCounterIndex i).isLt) k.isLt }
  | .screen f => { c with screen := c.screen.set (screenCounterIndex f).val v (screenCounterIndex f).isLt }
  | .mgmt i => { c with mgmt := c.mgmt.set (mgmtCounterIndex i).val v (mgmtCounterIndex i).isLt }
  | .notice i => { c with notice := c.notice.set (noticeCounterIndex i).val v (noticeCounterIndex i).isLt }

/-- An increment by `n` (R151): past 2147483647 the value wraps and the overflow flag is set. -/
def Counter.add (n : Nat) (c : Counter) : Counter :=
  { value := BitVec.ofNat 31 (c.value.toNat + n)
    overflow := c.overflow || decide (2147483647 < c.value.toNat + n) }

/-- A counter of the part. -/
def State.counter (s : State) (id : CounterId) : Counter := s.counters.get id

/-- Count `n` events in one increment (R151). -/
def State.count (s : State) (id : CounterId) (n : Nat) : State :=
  { s with counters := s.counters.set id ((s.counters.get id).add n) }

/-- A counter's value as an event record's detail carries it (R24, R151). -/
def State.counterDetail (s : State) (id : CounterId) : Word := (s.counter id).value.setWidth 32

/-! ## Blocks (R17..R19) -/

/-- Return a frame's blocks to the free list, in one return (R19). -/
def FrameStore.release (st : FrameStore) (d : Descriptor) : FrameStore :=
  { st with
    free := st.free ++ d.blocks
    share := st.share.set d.ingress (st.share.get d.ingress - d.blocks.length) }

/-- Return a frame's blocks (R19). -/
def State.release (s : State) (d : Descriptor) : State := { s with store := s.store.release d }

/-- Return the blocks of several frames (R28, R30). -/
def FrameStore.releaseAll : FrameStore → List Descriptor → FrameStore
  | st, [] => st
  | st, d :: ds => (st.release d).releaseAll ds

/-- Byte position `i` of a stored frame. -/
def State.frameByte (s : State) (d : Descriptor) (i : Nat) : Byte := Sys2Proof.Machine.frameByte s.store.bytes d i

/-- The bytes of a stored frame. -/
def State.frameBytes (s : State) (d : Descriptor) : List Byte := Sys2Proof.Machine.frameBytes s.store.bytes d

/-- Set the forward queue of port `p`. -/
def FrameStore.setForward (st : FrameStore) (p : Port) (l : List Screened) : FrameStore :=
  { st with forward := st.forward.set p l }

/-- Set the ingress ready list of port `p`. -/
def FrameStore.setReady (st : FrameStore) (p : Port) (l : List Descriptor) : FrameStore :=
  { st with ready := st.ready.set p l }

/-! ## Event queue (R134, R136, R137) -/

/-- Number of records in the queue. -/
def EventQueue.size (q : EventQueue) : Nat := q.outstanding.length + q.unsent.length

/-- The kinds whose records are coalesced (R136). -/
def coalesces : EventKind → Bool
  | .screenFault => true
  | .frameDiscard => true
  | _ => false

/-- The record can take one more event of this kind, subject and qualifier (R136). -/
def coalescesInto (kind : EventKind) (subject qualifier : Byte) (q : Queued) : Bool :=
  decide (q.record.kind = kind) && decide (q.record.subject = subject) && decide (q.record.qualifier = qualifier) &&
    decide (q.record.repeats < 255)

/-- The newest record that can take the event takes it: repeat up by one, detail replaced (R136).  `none` where no
record can. -/
def coalesceNewest (kind : EventKind) (subject qualifier : Byte) (detail : Word) :
    List Queued → Option (List Queued)
  | [] => none
  | q :: rest =>
    match coalesceNewest kind subject qualifier detail rest with
    | some rest' => some (q :: rest')
    | none =>
      if coalescesInto kind subject qualifier q then
        some ({ q with record := { q.record with repeats := q.record.repeats + 1, detail := detail } } :: rest)
      else none

/-- Store a new record at the tail with the next sequence value (R134). -/
def EventQueue.store (q : EventQueue) (time : Word) (kind : EventKind) (subject qualifier : Byte) (detail : Word) :
    EventQueue :=
  { q with
    unsent := q.unsent ++
      [{ record := { seq := q.nextSeq, time := time, kind := kind, subject := subject, repeats := 1,
                     qualifier := qualifier, detail := detail }
         carried := false }]
    nextSeq := q.nextSeq + 1 }

/-- Append an event: coalesced (R136), stored (R134), or lost to a full queue and counted (R137). -/
def EventQueue.append (q : EventQueue) (time : Word) (kind : EventKind) (subject qualifier : Byte) (detail : Word) :
    EventQueue :=
  match (if coalesces kind then coalesceNewest kind subject qualifier detail q.unsent else none) with
  | some unsent => { q with unsent := unsent }
  | none =>
    if q.size < Config.eventCapacity then q.store time kind subject qualifier detail
    else { q with lost := min (q.lost + 1) 65535 }

/-- A block raises an event (R134). -/
def State.raise (s : State) (kind : EventKind) (subject qualifier : Byte) (detail : Word) : State :=
  { s with events := s.events.append s.time kind subject qualifier detail }

/-- FRAME_DISCARD of a port with its cause; the detail is the counter that the discard incremented (R24). -/
def State.raiseDiscard (s : State) (p : Port) (cause : Byte) (counter : PortCounter) : State :=
  s.raise .frameDiscard (portCode p) cause (s.counterDetail (.port p counter))

/-! ## Responses (R160, R164, R165) -/

/-- Response slots in use: holding a response, or reserved (R159). -/
def Agent.slotsInUse (a : Agent) : Nat :=
  a.responses.length + (a.pendingResults.filter (fun r => r.slotReserved)).length

/-- A response slot is free (R161, R163). -/
def Agent.slotFree (a : Agent) : Bool := decide (a.slotsInUse < Config.responseSlots)

/-- A response built for a request (R16, R160): addressed to the request's source, sent from the own address in force,
with the request's sequence field. -/
def Agent.buildResponse (a : Agent) (source : Byte) (seq tag : Half) (command : Byte) (status : Status)
    (results : List Byte) : Originated :=
  { dest := source, source := a.ownAddress, ftype := typeResponse, seq := seq,
    payload := be16 tag ++ [command, statusCode status] ++ results }

/-- The key of the duplicate check (R162). -/
def sameKey (port : Port) (source : Byte) (tag : Half) (e : CacheEntry) : Bool :=
  decide (e.port = port) && decide (e.source = source) && decide (e.tag = tag)

/-- Enter a response in the reply cache as its newest entry (R164): an entry of the same key goes first, then the
oldest if the cache is full. -/
def cacheInsert (e : CacheEntry) (cache : List CacheEntry) : List CacheEntry :=
  let others := cache.filter fun x => !sameKey e.port e.source e.tag x
  others.drop (others.length - (Config.cacheCapacity - 1)) ++ [e]

/-- Enter a response in the reply cache. -/
def State.cacheResponse (s : State) (port : Port) (source : Byte) (tag : Half) (f : Originated) : State :=
  { s with agent := { s.agent with cache := cacheInsert ⟨port, source, tag, f⟩ s.agent.cache } }

/-- Hold a completed response in a slot; a port that is DOWN keeps none (R165). -/
def State.holdResponse (s : State) (port : Port) (f : Originated) : State :=
  match (s.link.get port).recorded with
  | .up => { s with agent := { s.agent with responses := s.agent.responses ++ [⟨port, f, false⟩] } }
  | .down => s

/-- Build a response, enter it in the reply cache and hold it in a slot (R163, R164, R165). -/
def State.respond (s : State) (port : Port) (source : Byte) (seq tag : Half) (command : Byte) (status : Status)
    (results : List Byte) : State :=
  let f := s.agent.buildResponse source seq tag command status results
  (s.cacheResponse port source tag f).holdResponse port f

/-! ## Execution of the request at the head of the queue (R163) -/

/-- What the owning block answers to a request.  A refusal changes no state of the part (R167). -/
inductive Reply where
  /-- DONE, with results, leaving the state given -/
  | done (results : List Byte) (s : State)
  /-- refused with a status other than DONE -/
  | refused (status : Status)
  /-- accepted, with a result to come (VERIFY, COMMIT) -/
  | accepted (s : State)

/-- The end of an execution: the request frame's blocks return, and executed is counted (R154, R163). -/
def State.endExecution (s : State) (r : Request) : State :=
  (s.release r.frame).count (.mgmt .executed) 1

/-- Reserve a response slot and record the pending result (R163). -/
def State.reserve (s : State) (r : Request) : State :=
  { s with
    agent :=
      { s.agent with
        pendingResults := s.agent.pendingResults ++
          [{ port := r.port, source := r.source, seq := r.seq, tag := r.tag, command := r.command,
             slotReserved := true }] } }

/-- Take the head request out of the queue. -/
def State.dequeue (s : State) : State := { s with agent := { s.agent with requests := s.agent.requests.tail } }

/-- Execute the head request if it is one that `runs` selects and a response slot is free (R163).  Where that does not
hold the execution does not start and nothing changes. -/
def State.execute (runs : Byte → Bool) (body : Request → State → Reply) (s : State) : State :=
  match s.agent.requests with
  | [] => s
  | r :: _ =>
    if runs r.command && s.agent.slotFree then
      match body r s.dequeue with
      | .done results t => (t.respond r.port r.source r.seq r.tag r.command .done results).endExecution r
      | .refused status => (s.dequeue.respond r.port r.source r.seq r.tag r.command status []).endExecution r
      | .accepted t => (t.reserve r).endExecution r
    else s

/-- Arguments of another length than the command requires are answered BAD_ARGUMENT before any other check (R163,
R175). -/
def withLength (n : Nat) (r : Request) (k : Unit → Reply) : Reply :=
  if r.args.length = n then k () else .refused .badArgument

/-- Execute the command of one code with a fixed argument length. -/
def State.executeCode (code : Byte) (length : Nat) (body : Request → State → Reply) (s : State) : State :=
  s.execute (fun c => decide (c = code)) (fun r t => withLength length r fun _ => body r t)

end Sys2Proof.Machine
end

