-- ==== Sys2Proof/Machine/Agent.lean ====
section
/-! DEFINITION. The management agent (chapter 11): arrival of a request, report of a result, and the meanings of the
commands that the agent and the counter block own, with READ_STATUS and BAD_COMMAND. -/

namespace Sys2Proof.Machine

/-! ## Arrival (R161) -/

/-- The request that a frame carries (R159, R160): tag at payload positions 0..1, command at 2, arguments from 3. -/
def State.requestOf (s : State) (d : Descriptor) : Request :=
  let bytes := s.frameBytes d
  { port := d.ingress, source := byteAt bytes 1, seq := halfAt bytes 4, tag := halfAt bytes 8,
    command := byteAt bytes 10, args := (bytes.take (d.total - 4)).drop 11, frame := d }

/-- A request of this key is queued or has its result pending (R161, R162). -/
def Agent.inFlight (a : Agent) (r : Request) : Bool :=
  (a.requests.any fun q => decide (q.port = r.port) && decide (q.source = r.source) && decide (q.tag = r.tag)) ||
  (a.pendingResults.any fun q => decide (q.port = r.port) && decide (q.source = r.source) && decide (q.tag = r.tag))

/-- The reply-cache entry of this key (R161). -/
def Agent.cached (a : Agent) (r : Request) : Option CacheEntry := a.cache.find? (sameKey r.port r.source r.tag)

/-- Check 3 of R161 refuses the request. -/
def Agent.refusesSource (a : Agent) (r : Request) : Bool :=
  !a.sources.isEmpty && !a.sources.contains r.source && decide (r.command ≠ codeIdentify)

/-- The request frame's blocks return at its arrival, with a count (R161). -/
def State.dropRequest (s : State) (r : Request) (c : MgmtCounter) : State := (s.release r.frame).count (.mgmt c) 1

/-- The checks on arrival (R161). -/
def State.judgeArrival (s : State) (r : Request) : State :=
  if s.agent.portSet.get r.port = false then s.dropRequest r .portRefused
  else if r.frame.total < 15 then s.dropRequest r .malformed
  else if s.agent.refusesSource r then
    let t := s.dropRequest r .notPermitted
    if s.agent.slotFree then t.respond r.port r.source r.seq r.tag r.command .notPermitted [] else t
  else
    match s.agent.cached r with
    | some e =>
      let t := s.dropRequest r .duplicate
      if s.agent.slotFree then t.holdResponse r.port e.response else t
    | none =>
      if s.agent.inFlight r then s.dropRequest r .duplicate
      else if Config.requestCapacity ≤ s.agent.requests.length then s.dropRequest r .queueDiscard
      else { s with agent := { s.agent with requests := s.agent.requests ++ [r] } }

/-- MGMT_REQUEST_ARRIVAL (R161): the agent takes the oldest request frame handed over from port `p`. -/
def execMgmtRequestArrival (p : Port) (s : State) : Host.Outcome State Fault Refusal :=
  match s.agent.inbox.get p with
  | [] => .next s
  | d :: rest =>
    let t := { s with agent := { s.agent with inbox := s.agent.inbox.set p rest } }
    .next (t.judgeArrival (t.requestOf d))

/-! ## Report of a result (R163, R165, R166) -/

/-- The results of a reported VERIFY or COMMIT (section 12.2). -/
def reportBytes : Report → List Byte
  | .verified v => verifyBytes v
  | .committed active => [active.code]

/-- The response of a reported result: into the reply cache, and into its slot if one is still reserved (R166). -/
def State.respondReported (s : State) (q : PendingResult) (r : Report) : State :=
  let f := s.agent.buildResponse q.source q.seq q.tag q.command .done (reportBytes r)
  let t := s.cacheResponse q.port q.source q.tag f
  if q.slotReserved then t.holdResponse q.port f else t

/-- RESULT_REPORT (R163): the oldest report answers the oldest pending result. -/
def execResultReport (s : State) : Host.Outcome State Fault Refusal :=
  match s.tables.reports, s.agent.pendingResults with
  | r :: reports, q :: rest =>
    .next ({ s with
      tables := { s.tables with reports := reports }
      agent := { s.agent with pendingResults := rest } }.respondReported q r)
  | _, _ => .next s

/-! ## Commands of the agent -/

/-- The results of IDENTIFY (R171, section 12.2). -/
def identity : List Byte :=
  [0x0D, 0x1F, 0x24, 0x10, 0x01, 96, 64, 64, 16, 24, 2, 0x01, 0x00, 64, 32, 48, 4, 32, 8, 4, 4, 4]

/-- IDENTIFY (R171). -/
def execIdentify (s : State) : Host.Outcome State Fault Refusal :=
  .next (s.executeCode codeIdentify 0 fun _ t => .done identity t)

/-- SET_ADDRESS (R169). -/
def execSetAddress (s : State) : Host.Outcome State Fault Refusal :=
  .next (s.executeCode codeSetAddress 1 fun r t =>
    let v := byteAt r.args 0
    if v = 0 ∨ v = 255 then .refused .badArgument
    else .done [] { t with agent := { t.agent with ownAddress := v } })

/-- The port set that a byte encodes: bit 0 A, bit 1 B (section 12.2). -/
def portSetOf (b : Byte) : PerPort Bool := ⟨b.getLsbD 0, b.getLsbD 1⟩

/-- The checks of SET_ACCESS in order (R170), and the command's effect. -/
def setAccess (r : Request) (t : State) : Reply :=
  let n := (byteAt r.args 1).toNat
  if r.args.length < 2 ∨ r.args.length ≠ 2 + n then .refused .badArgument
  else
    let set := byteAt r.args 0
    let sources := r.args.drop 2
    if field set 2 6 ≠ 0 ∨ 4 < n ∨ sources.contains 255 = true ∨ ¬ sources.Nodup then .refused .badArgument
    else if set = 0 then .refused .lockout
    else if (portSetOf set).get r.port = false then .refused .lockout
    else if sources ≠ [] ∧ r.source ∉ sources then .refused .lockout
    else .done [] { t with agent := { t.agent with portSet := portSetOf set, sources := sources } }

/-- SET_ACCESS (R170). -/
def execSetAccess (s : State) : Host.Outcome State Fault Refusal :=
  .next (s.execute (fun c => decide (c = codeSetAccess)) setAccess)

/-- A class's byte of the status report: bits 5..4 the override, bits 1..0 the effective disposition. -/
def classByte (c : ClassState) : Byte := byteOf (16 * overrideCode c.override + dispositionCode c.effective)

/-- A link state's bit. -/
def linkBit : Link → Nat
  | .down => 0
  | .up => 1

/-- The status report (R172, section 12.2). -/
def State.statusReport (s : State) : List Byte :=
  [s.engine.activeBank.code, tableStateCode s.tables.state] ++ verifyBytes s.tables.verify ++
    s.monitors.toList.map (fun m => monitorStateCode m.run.state) ++ s.classes.toList.map classByte ++
    [noticeStateCode s.notice.state, byteOf s.events.outstanding.length, byteOf s.events.size] ++
    be16 (BitVec.ofNat 16 s.events.lost) ++
    [byteOf (linkBit s.link.a.recorded + 2 * linkBit s.link.b.recorded), byteOf s.store.free.length,
     byteOf s.store.ready.a.length, byteOf s.store.ready.b.length,
     byteOf s.store.forward.a.length, byteOf s.store.forward.b.length]

/-- READ_STATUS (R33, R172). -/
def execReadStatus (s : State) : Host.Outcome State Fault Refusal :=
  .next (s.executeCode codeReadStatus 0 fun _ t => .done t.statusReport t)

/-- The counter groups (R152). -/
inductive Group where
  | port (p : Port)
  | cls (k : ClassId)
  | screen
  | mgmt
  | notice
deriving DecidableEq, Repr

/-- A group code (section 12.2). -/
def groupOf (b : Byte) : Option Group :=
  if b = 0 then some (.port .a)
  else if b = 1 then some (.port .b)
  else if b = 34 then some .screen
  else if b = 35 then some .mgmt
  else if b = 36 then some .notice
  else (below 32 (b.toNat - 2)).map .cls

/-- The counters of a group in the order of R152. -/
def groupCounters (c : Counters) : Group → List Counter
  | .port p => (c.port.get p).toList
  | .cls k => (c.cls[k]).toList
  | .screen => c.screen.toList
  | .mgmt => c.mgmt.toList
  | .notice => c.notice.toList

/-- Clear the counters of a group (R153). -/
def clearGroup (c : Counters) : Group → Counters
  | .port p => { c with port := c.port.set p (Vector.replicate 8 .zero) }
  | .cls k => { c with cls := c.cls.set k.val (Vector.replicate 6 .zero) k.isLt }
  | .screen => { c with screen := Vector.replicate 4 .zero }
  | .mgmt => { c with mgmt := Vector.replicate 6 .zero }
  | .notice => { c with notice := Vector.replicate 3 .zero }

/-- READ_COUNTERS (R153, R154): the values are taken before the clear, and executed is counted after it. -/
def execReadCounters (s : State) : Host.Outcome State Fault Refusal :=
  .next (s.executeCode codeReadCounters 2 fun r t =>
    match groupOf (byteAt r.args 0), boolOf (byteAt r.args 1) with
    | some g, some clear =>
      let l := groupCounters t.counters g
      .done ([byteAt r.args 0, byteOf l.length] ++ l.flatMap counterBytes)
        (if clear then { t with counters := clearGroup t.counters g } else t)
    | _, _ => .refused .badArgument)

/-- BAD_COMMAND (R163): the head request's command code names no command. -/
def execBadCommand (s : State) : Host.Outcome State Fault Refusal :=
  .next (s.execute (fun c => !commandCodes.contains c) fun _ _ => .refused .badCommand)

end Sys2Proof.Machine
end

