-- ==== Sys2Proof/Machine/Tables.lean ====
section
/-! DEFINITION. The table service's own operations (chapter 8): the examination, the bank switch and the copy, and the
meanings of VERIFY_EXAMINATION_COMPLETE and COPY_COMPLETE. -/

namespace Sys2Proof.Machine

/-! ## The reference conditions (R49, R125) -/

/-- The NEXT target of an action, if it has one, lies below the length. -/
def targetBelow (length : Nat) (act : Action) (arg : Byte) : Bool :=
  match act with
  | .next => decide (arg.toNat < length)
  | _ => true

/-- Number of bytes of an entry's window, for the window condition. -/
def windowBytes : Width → Nat
  | .one => 1
  | .two => 2
  | .four => 4

/-- The first condition that an entry of the program fails, in the order of R125. -/
def entryFault (length : Nat) (e : Entry) : Option FailReason :=
  if !targetBelow length e.matchAction e.matchArg then some .targetRange
  else if !targetBelow length e.missAction e.missArg then some .targetRange
  else if e.base = .frame ∧ Config.maxWindowEnd < e.offset.val + windowBytes e.width then some .windowRange
  else none

/-- Examine entries from index `i` on (R125). -/
def examineEntries (length : Nat) : Nat → List Entry → VerifyState
  | _, [] => .passed
  | i, e :: es =>
    match entryFault length e with
    | some reason => .failed i reason
    | none => examineEntries length (i + 1) es

/-- The examination of a bank (R125). -/
def examine (b : Bank) : VerifyState :=
  let length := b.header.length.val
  if 0 < length ∧ (length ≤ b.header.entryA.val ∨ length ≤ b.header.entryB.val) then .failed 256 .entryRange
  else examineEntries length 0 (b.entries.toList.take length)

/-! ## Switch and copy (R66, R127..R130) -/

/-- The table service reports a result to the agent (R125, R128, R129). -/
def State.postReport (s : State) (r : Report) : State :=
  { s with tables := { s.tables with reports := s.tables.reports ++ [r] } }

/-- A commit completes: verify state PASSED, the table service IDLE, the result reported, COMMIT_DONE raised
(R128, R129, R130). -/
def State.completeCommit (s : State) (mode : CommitMode) : State :=
  ({ s with tables := { s.tables with state := .idle, verify := .passed } }.postReport
    (.committed s.engine.activeBank)).raise .commitDone s.shadow.code (commitModeCode mode)
      (s.engine.activeBank.code.setWidth 32)

/-- The bank switch, with the table service's move out of SWITCH_PENDING (R66, R127). -/
def State.switchBanks (s : State) : State :=
  let t := { s with engine := { s.engine with activeBank := s.engine.activeBank.other, switchPending := false } }
  match t.tables.state with
  | .switchPending .keep => t.completeCommit .keep
  | .switchPending .copy => { t with tables := { t.tables with state := .copying, verify := .unverified } }
  | _ => t

/-- A bank whose first `n` entries have been copied from `source` (R129, R131): the header is copied last. -/
def copiedSoFar (source old : Bank) (n : Nat) : Bank :=
  { old with entries := Vector.ofFn fun i => if i.val < n then source.entries[i] else old.entries[i] }

/-! ## Meanings -/

/-- VERIFY_EXAMINATION_COMPLETE (R125). -/
def execVerifyExaminationComplete (s : State) : Host.Outcome State Fault Refusal :=
  match s.tables.state with
  | .verifying =>
    let v := examine (s.bank s.shadow)
    .next ({ s with tables := { s.tables with state := .idle, verify := v } }.postReport (.verified v))
  | _ => .next s

/-- COPY_COMPLETE (R129). -/
def execCopyComplete (s : State) : Host.Outcome State Fault Refusal :=
  match s.tables.state with
  | .copying => .next ((s.setBank s.shadow (s.bank s.engine.activeBank)).completeCommit .copy)
  | _ => .next s

end Sys2Proof.Machine
end

