-- ==== Sys2Proof/Machine/BankCommands.lean ====
section
/-! DEFINITION. The commands of the table service (chapter 8): READ_HEADER, WRITE_HEADER, READ_ENTRIES, WRITE_ENTRIES,
VERIFY and COMMIT. -/

namespace Sys2Proof.Machine

/-- The bank that a selector names when the request executes: `true` for ACTIVE (R34, R122). -/
def State.selectBank (s : State) (active : Bool) : BankId := if active then s.engine.activeBank else s.shadow

/-- The table service refuses a read of this role: the shadow bank, while it is being copied into (R119, R122). -/
def State.readBusy (s : State) (active : Bool) : Bool := !active && decide (s.tables.state = .copying)

/-- The table service is IDLE (R119). -/
def State.tablesIdle (s : State) : Bool := decide (s.tables.state = .idle)

/-- Replace the shadow bank; its verify state becomes NONE (R120, R121, R123). -/
def State.writeShadow (s : State) (b : Bank) : State :=
  let t := s.setBank s.shadow b
  { t with tables := { t.tables with verify := .unverified } }

/-- Entries written from an index on (R121). -/
def writeEntriesFrom : Nat → List Entry → Vector Entry 256 → Vector Entry 256
  | _, [], v => v
  | i, e :: es, v => writeEntriesFrom (i + 1) es (v.setIfInBounds i e)

/-- `n` entries of a bank from an index on (R122). -/
def entriesFrom (b : Bank) (first n : Nat) : List Entry :=
  (List.range n).map fun i => b.entries[first + i]?.getD .powerOn

/-- Count and first index of an entry range are legal (R121, R122). -/
def legalRange (first n : Nat) : Bool := decide (1 ≤ n) && decide (n ≤ 16) && decide (first + n ≤ 256)

/-- READ_HEADER (R122). -/
def readHeader (r : Request) (t : State) : Reply :=
  match selectorOf (byteAt r.args 0) with
  | none => .refused .badArgument
  | some active =>
    if t.readBusy active then .refused .busy
    else .done ((t.selectBank active).code :: headerBytes (t.bank (t.selectBank active)).header) t

/-- WRITE_HEADER (R120). -/
def writeHeader (r : Request) (t : State) : Reply :=
  if t.tablesIdle = false then .refused .busy
  else
    match headerOf r.args with
    | none => .refused .badArgument
    | some h => .done [] (t.writeShadow { t.bank t.shadow with header := h })

/-- READ_ENTRIES (R122). -/
def readEntries (r : Request) (t : State) : Reply :=
  let first := (byteAt r.args 1).toNat
  let n := (byteAt r.args 2).toNat
  match selectorOf (byteAt r.args 0) with
  | none => .refused .badArgument
  | some active =>
    if legalRange first n = false then .refused .badArgument
    else if t.readBusy active then .refused .busy
    else
      .done ([(t.selectBank active).code, byteAt r.args 1, byteAt r.args 2] ++
        (entriesFrom (t.bank (t.selectBank active)) first n).flatMap entryBytes) t

/-- WRITE_ENTRIES (R121). -/
def writeEntries (r : Request) (t : State) : Reply :=
  let first := (byteAt r.args 0).toNat
  let n := (byteAt r.args 1).toNat
  if r.args.length < 2 ∨ r.args.length ≠ 2 + 16 * n then .refused .badArgument
  else if legalRange first n = false then .refused .badArgument
  else if t.tablesIdle = false then .refused .busy
  else
    match entriesOf n (r.args.drop 2) with
    | none => .refused .badArgument
    | some es =>
      let b := t.bank t.shadow
      .done [] (t.writeShadow { b with entries := writeEntriesFrom first es b.entries })

/-- VERIFY (R124). -/
def verify (t : State) : Reply :=
  if t.tablesIdle = false then .refused .busy
  else .accepted { t with tables := { t.tables with state := .verifying, verify := .unverified } }

/-- A take of a frame reaches the engine together with a switch request: the engine is IDLE and a descriptor waits
(R65). -/
def State.takeMeetsRequest (s : State) : Bool :=
  decide (s.engine.phase = .idle ∧ (s.store.ready.a ≠ [] ∨ s.store.ready.b ≠ []))

/-- COMMIT (R126): the switch request is posted (R65). -/
def commit (r : Request) (t : State) : Reply :=
  match commitModeOf (byteAt r.args 0) with
  | none => .refused .badArgument
  | some mode =>
    if t.tablesIdle = false then .refused .busy
    else if t.tables.verify ≠ .passed then .refused .notVerified
    else
      .accepted { t with
        tables := { t.tables with state := .switchPending mode }
        engine := { t.engine with switchPosted := true, takeMayPrecede := t.takeMeetsRequest } }

/-! ## Meanings -/

/-- READ_HEADER (R122). -/
def execReadHeader (s : State) : Host.Outcome State Fault Refusal := .next (s.executeCode codeReadHeader 1 readHeader)

/-- WRITE_HEADER (R120). -/
def execWriteHeader (s : State) : Host.Outcome State Fault Refusal :=
  .next (s.executeCode codeWriteHeader 6 writeHeader)

/-- READ_ENTRIES (R122). -/
def execReadEntries (s : State) : Host.Outcome State Fault Refusal :=
  .next (s.executeCode codeReadEntries 3 readEntries)

/-- WRITE_ENTRIES (R121). -/
def execWriteEntries (s : State) : Host.Outcome State Fault Refusal :=
  .next (s.execute (fun c => decide (c = codeWriteEntries)) writeEntries)

/-- VERIFY (R124). -/
def execVerify (s : State) : Host.Outcome State Fault Refusal := .next (s.executeCode codeVerify 0 fun _ t => verify t)

/-- COMMIT (R126). -/
def execCommit (s : State) : Host.Outcome State Fault Refusal := .next (s.executeCode codeCommit 1 commit)

end Sys2Proof.Machine
end

