-- ==== Sys2Proof/Machine/Disposition.lean ====
section
/-! DEFINITION. The disposition unit (chapter 7): engaged lists, effective dispositions, and the fate of a frame. -/

namespace Sys2Proof.Machine

/-! ## Engaged lists and effective dispositions (R105..R109) -/

/-- Add a monitor to an engaged list, which stays in ascending monitor number (R105, R106). -/
def insertEngaged (e : Engaged) : List Engaged → List Engaged
  | [] => [e]
  | x :: xs =>
    if e.monitor < x.monitor then e :: x :: xs
    else if e.monitor = x.monitor then e :: xs
    else x :: insertEngaged e xs

/-- Remove a monitor from an engaged list (R106). -/
def removeEngaged (m : MonitorId) (l : List Engaged) : List Engaged := l.filter fun e => decide (e.monitor ≠ m)

/-- Some engaged monitor asks for this consequence. -/
def asks (k : Consequence) (l : List Engaged) : Bool := l.any fun e => decide (e.consequence = k)

/-- The effective disposition (R107). -/
def effectiveOf (o : Override) (engaged : List Engaged) : Disposition :=
  match o with
  | .forcePass => .pass
  | .forceBlock => .block
  | .auto =>
    if asks .block engaged then .block
    else if asks .substitute engaged then .substitute
    else if asks .mark engaged then .mark
    else .pass

/-- Post a purge request (R109). -/
def State.requestPurge (s : State) (c : ClassId) : State :=
  { s with store := { s.store with purges := s.store.purges ++ [c] } }

/-- Recompute a class (R108): a changed value is taken, reported, and purged for if it is BLOCK (R109). -/
def State.recompute (s : State) (c : ClassId) (cause : Word) : State :=
  let k := s.classState c
  let new := effectiveOf k.override k.engaged
  if new = k.effective then s
  else
    let t := (s.setClass c { k with effective := new }).raise .dispositionChange (byteOf c.val)
      (byteOf (dispositionCode new)) cause
    if new = .block then t.requestPurge c else t

/-- A report of the monitor unit (R73, R106). -/
def State.report (s : State) (m : MonitorId) (engaged : Bool) : State :=
  let c := (s.monitor m).config
  let k := s.classState c.cls
  let l := if engaged then insertEngaged ⟨m, c.consequence, c.slot⟩ k.engaged else removeEngaged m k.engaged
  (s.setClass c.cls { k with engaged := l }).recompute c.cls (BitVec.ofNat 32 m.val)

/-! ## Substitution (R113, R114) -/

/-- Number of bytes of a window (R39). -/
def widthBytes : Width → Nat
  | .one => 1
  | .two => 2
  | .four => 4

/-- The window's bytes, most significant first, as a 32-bit quantity (R42). -/
def windowValue (cells : List Host.Cell) (d : Descriptor) (offset : Nat) (w : Width) : Word :=
  (List.range (widthBytes w)).foldl
    (fun v i => (v <<< 8) ||| (frameByte cells d (offset + i)).setWidth 32) 0

/-- Write the low `width` bytes of a value into a window, most significant first (R114). -/
def writeWindow (d : Descriptor) (offset : Nat) (w : Width) (v : Word) (cells : List Host.Cell) : List Host.Cell :=
  writeFrameBytes d offset ((be32 v).drop (4 - widthBytes w)) cells

/-- The lowest-numbered engaged SUBSTITUTE monitor that names the slot (R113). -/
def supplier (engaged : List Engaged) (k : Fin 4) : Option MonitorId :=
  (engaged.find? fun e => decide (e.consequence = .substitute) && decide (e.slot = k)).map (·.monitor)

/-- The slots to be rewritten, in ascending order, each with its supplier's substitute value (R113). -/
def State.rewrites (s : State) (c : ClassId) : List (Fin 4 × Word) :=
  (List.finRange 4).filterMap fun k =>
    (supplier (s.classState c).engaged k).map fun m => (k, (s.monitor m).config.substituteValue)

/-- Rewrite one sample's window: the bits its mask has come from the substitute value, the others stay (R114). -/
def rewriteSample (d : Descriptor) (x : Sample) (value : Word) (cells : List Host.Cell) : List Host.Cell :=
  let w := windowValue cells d x.offset x.width
  writeWindow d x.offset x.width ((w &&& ~~~ x.mask) ||| (value &&& x.mask)) cells

/-- Rewrite the slots of a frame, in the order given (R114). -/
def rewriteSlots (d : Screened) : List (Fin 4 × Word) → List Host.Cell → List Host.Cell
  | [], cells => cells
  | (k, value) :: rest, cells =>
    rewriteSlots d rest
      (match d.slots[k] with
       | some x => rewriteSample d.desc x value cells
       | none => cells)

/-- Some slot to be rewritten holds no sample (R113, the fail-safe block). -/
def lacksSample (d : Screened) (l : List (Fin 4 × Word)) : Bool := l.any fun r => (d.slots[r.1]).isNone

/-! ## The fate of a frame (R111, R112, R115) -/

/-- Replace the bytes of the frame store. -/
def State.setBytes (s : State) (cells : List Host.Cell) : State := { s with store := { s.store with bytes := cells } }

/-- Mark a frame: the flag and the recomputed check (R112). -/
def State.markFrame (s : State) (d : Descriptor) (bits : Byte) : State :=
  s.setBytes (recomputeCheck d (setFrameFlags d bits s.store.bytes))

/-- Offer a frame to the forward queue of the opposite port (R22, R115). -/
def State.offer (s : State) (d : Screened) : State :=
  let q := opposite d.desc.ingress
  match (s.link.get q).recorded with
  | .down => (s.release d.desc).count (.port q .txFlushed) 1
  | .up =>
    if Config.forwardCapacity ≤ (s.store.forward.get q).length then
      ((s.release d.desc).count (.port q .txQueueFull) 1).raiseDiscard q 3 .txQueueFull
    else
      { s with store := s.store.setForward q (s.store.forward.get q ++ [d]) }.count (.cls d.cls .forwarded) 1

/-- Discard a frame and count it in blocked of its class (R111, R113). -/
def State.block (s : State) (d : Screened) : State := (s.release d.desc).count (.cls d.cls .blocked) 1

/-- Decide a frame's fate (R111). -/
def State.decideFrame (s : State) (d : Screened) : State :=
  match d.verdict with
  | .drop => (s.release d.desc).count (.cls d.cls .programDropped) 1
  | .accept =>
    match (s.classState d.cls).effective with
    | .pass => s.offer d
    | .mark => ((s.markFrame d.desc markedFlag).count (.cls d.cls .marked) 1).offer d
    | .substitute =>
      let l := s.rewrites d.cls
      if lacksSample d l then s.block d
      else
        ((((s.setBytes (rewriteSlots d l s.store.bytes)).markFrame d.desc (markedFlag ||| substitutedFlag)).count
          (.cls d.cls .marked) 1).count (.cls d.cls .substituted) 1).offer d
    | .block => s.block d

end Sys2Proof.Machine
end

