-- ==== Sys2Proof/Machine/Egress.lean ====
section
/-! DEFINITION. Egress arbiters and transmitters (chapters 1 and 2), and the meanings of PURGE, EGRESS_GRANT and
END_OF_TRANSMISSION. -/

namespace Sys2Proof.Machine

/-! ## Purge (R28) -/

/-- The descriptor is of class `c`. -/
def ofClass (c : ClassId) (d : Screened) : Bool := decide (d.cls = c)

/-- Remove the descriptors of a class from both forward queues, returning their blocks (R28). -/
def FrameStore.purge (st : FrameStore) (c : ClassId) : FrameStore :=
  let gone := (st.forward.a.filter (ofClass c) ++ st.forward.b.filter (ofClass c)).map (·.desc)
  { st with
    forward := ⟨st.forward.a.filter (fun d => !ofClass c d), st.forward.b.filter (fun d => !ofClass c d)⟩ }.releaseAll
    gone

/-- Number of descriptors that a purge of the class removes (R28, R151). -/
def FrameStore.purgeCount (st : FrameStore) (c : ClassId) : Nat :=
  (st.forward.a.filter (ofClass c)).length + (st.forward.b.filter (ofClass c)).length

/-! ## Requesters and grants (R25, R26, R27) -/

/-- The response waits for a grant on port `p` (R25). -/
def waitsOn (p : Port) (r : HeldResponse) : Bool := decide (r.port = p) && !r.inTransmission

/-- The first response of the list that waits on port `p` enters transmission; its slot stays held (R13). -/
def grantFirst (p : Port) : List HeldResponse → List HeldResponse
  | [] => []
  | r :: rs => if waitsOn p r then { r with inTransmission := true } :: rs else r :: grantFirst p rs

/-- The response requester of port `p` (R25). -/
def State.responseRequester (s : State) (p : Port) : Option Originated :=
  (s.agent.responses.find? (waitsOn p)).map (·.frame)

/-- The notice requester of port `p` (R25). -/
def State.noticeRequester (s : State) (p : Port) : Option Originated :=
  match s.notice.frame with
  | some f => if f.port = p ∧ f.inTransmission = false then some f.frame else none
  | none => none

/-- Set the run count of port `p` (R26). -/
def State.setRunCount (s : State) (p : Port) (n : Nat) : State := { s with runCount := s.runCount.set p n }

/-- The run count after a grant to a response or the notice (R26). -/
def State.runAfterPrecedence (s : State) (p : Port) : Nat :=
  match s.store.forward.get p with
  | [] => 0
  | _ :: _ => s.runCount.get p + 1

/-- Grant the response of rank 1 (R13, R26). -/
def State.grantResponse (s : State) (p : Port) (f : Originated) : State :=
  ({ s with agent := { s.agent with responses := grantFirst p s.agent.responses } }.setRunCount p
    (s.runAfterPrecedence p)).setTransmitter p (.sending (.response f))

/-- Grant the notice (R13, R26). -/
def State.grantNotice (s : State) (p : Port) (f : Originated) : State :=
  ({ s with
      notice := { s.notice with frame := s.notice.frame.map fun (x : NoticeFrame) => { x with inTransmission := true } } }.setRunCount p
    (s.runAfterPrecedence p)).setTransmitter p (.sending (.notice f))

/-- Grant the forward head, which leaves the queue (R13, R26). -/
def State.grantForward (s : State) (p : Port) (d : Screened) (rest : List Screened) : State :=
  ({ s with store := s.store.setForward p rest }.setRunCount p 0).setTransmitter p (.sending (.forwarded d))

/-- The grant of an idle, UP port (R26): the forward head when the run count demands it, else the highest rank
present. -/
def State.grant (s : State) (p : Port) : State :=
  match s.store.forward.get p with
  | d :: rest =>
    if 3 ≤ s.runCount.get p then s.grantForward p d rest
    else
      match s.responseRequester p, s.noticeRequester p with
      | some f, _ => s.grantResponse p f
      | none, some f => s.grantNotice p f
      | none, none => s.grantForward p d rest
  | [] =>
    match s.responseRequester p, s.noticeRequester p with
    | some f, _ => s.grantResponse p f
    | none, some f => s.grantNotice p f
    | none, none => s

/-! ## End of transmission (R14) -/

/-- Free the slot whose response is in transmission on port `p` (R14, R165). -/
def freeSent (p : Port) : List HeldResponse → List HeldResponse
  | [] => []
  | r :: rs => if r.port = p ∧ r.inTransmission = true then rs else r :: freeSent p rs

/-- The notice sender no longer holds the frame that was in transmission on port `p` (R143). -/
def State.dropSentNotice (s : State) (p : Port) : State :=
  { s with
    notice := { s.notice with frame := s.notice.frame.filter fun f => !(decide (f.port = p) && f.inTransmission) } }

/-- The bytes that a frame in transmission puts on the line (R13). -/
def State.lineBytes (s : State) : Sending → List Byte
  | .response f => f.bytes
  | .notice f => f.bytes
  | .forwarded d => s.frameBytes d.desc

/-- The end is reported to the frame's owner (R14). -/
def State.reportSent (s : State) (p : Port) : Sending → State
  | .response _ => { s with agent := { s.agent with responses := freeSent p s.agent.responses } }
  | .notice _ => (s.dropSentNotice p).count (.notice .framesSent) 1
  | .forwarded d => s.release d.desc

/-! ## Meanings -/

/-- PURGE (R28): the frame store takes a purge request of class `c` that the disposition unit has posted. -/
def execPurge (c : ClassId) (s : State) : Host.Outcome State Fault Refusal :=
  if c ∈ s.store.purges then
    let st := s.store.purge c
    .next ({ s with store := { st with purges := s.store.purges.erase c } }.count (.cls c .blocked)
      (s.store.purgeCount c))
  else .next s

/-- EGRESS_GRANT (R26, R27). -/
def execEgressGrant (p : Port) (s : State) : Host.Outcome State Fault Refusal :=
  match s.transmitters.get p, (s.link.get p).recorded with
  | .idle, .up => .next (s.grant p)
  | _, _ => .next s

/-- END_OF_TRANSMISSION (R14). -/
def execEndOfTransmission (p : Port) (s : State) : Host.Outcome State Fault Refusal :=
  match s.transmitters.get p with
  | .sending f =>
    let t := ((s.setTransmitter p .idle).count (.port p .txFrames) 1)
    .next ({ t with lineOut := t.lineOut.set p (.sent (s.lineBytes f)) }.reportSent p f)
  | _ => .next s

end Sys2Proof.Machine
end

