-- ==== Sys2Proof/Machine/Receive.lean ====
section
/-! DEFINITION. The port receivers (chapter 1), and the meanings of FRAME_START, BLOCK_CLAIM, OVERSIZE, FRAME_END and
FRAME_END_IN_DISCARDING. -/

namespace Sys2Proof.Machine

/-- The frame in progress as a stored frame of its port. -/
def Reception.descriptor (f : Reception) (p : Port) : Descriptor := ⟨p, f.count, f.blocks⟩

/-- A frame at its start: no byte taken, no block claimed (R7). -/
def Reception.start : Reception := ⟨0, [], crcStart⟩

/-- The next byte is at a claim position: 0, 64, 128, ... 448 (R7). -/
def atClaimPosition (count : Nat) : Bool :=
  decide (count % Config.blockSize = 0) && decide (count < Config.maxTotal)

/-- A claim on port `p` is granted (R18). -/
def FrameStore.claimGranted (st : FrameStore) (p : Port) : Bool :=
  !st.free.isEmpty && decide (st.share.get p < Config.portShare)

/-- The free block granted: `pick` if it is free, else the first free one (R17, "any free block"). -/
def grantedBlock (free : List BlockId) (pick : BlockId) : BlockId :=
  if pick ∈ free then pick else free.headD pick

/-- The bytes that go into the block claimed at a position: as far as the block and position 507 reach (R7, R8). -/
def blockBytes (count : Nat) (bytes : List Byte) : List Byte :=
  bytes.take (min Config.blockSize (Config.maxTotal - count))

/-- A granted claim: the block joins the frame's list and takes the bytes (R7, R18). -/
def State.grantClaim (s : State) (p : Port) (f : Reception) (pick : BlockId) (bytes : List Byte) : State :=
  let b := grantedBlock s.store.free pick
  let taken := blockBytes f.count bytes
  let f' : Reception := ⟨f.count + taken.length, f.blocks ++ [b], taken.foldl crcByte f.check⟩
  { s with
    store :=
      { s.store with
        free := s.store.free.erase b
        share := s.store.share.set p (s.store.share.get p + 1)
        bytes := writeFrameBytes (f'.descriptor p) f.count taken s.store.bytes } }.setReceiver p (.receiving f')

/-- The receiver gives its frame up and discards the rest of it (R7, R8). -/
def State.giveUp (s : State) (p : Port) (f : Reception) (counter : PortCounter) : State :=
  ((s.release (f.descriptor p)).count (.port p counter) 1).setReceiver p .discarding

/-- A frame is discarded at its end (R9, R10, R11). -/
def State.discardReceived (s : State) (d : Descriptor) (counter : PortCounter) : State :=
  (s.release d).count (.port d.ingress counter) 1

/-- Offer a descriptor to the ingress ready list of its port (R11, R21). -/
def State.offerReady (s : State) (d : Descriptor) : State :=
  let p := d.ingress
  if Config.readyCapacity ≤ (s.store.ready.get p).length then
    (s.discardReceived d .rxNoBuffer).raiseDiscard p 2 .rxNoBuffer
  else
    { s with store := s.store.setReady p (s.store.ready.get p ++ [d]) }.count (.port p .rxGood) 1

/-- Hand a frame to the management agent (R10). -/
def State.handToAgent (s : State) (d : Descriptor) : State :=
  { s with
    agent := { s.agent with inbox := s.agent.inbox.set d.ingress (s.agent.inbox.get d.ingress ++ [d]) } }.count
    (.port d.ingress .rxGood) 1

/-- Hand a frame to the notice sender, whose answer decides how the frame is counted (R10, R144). -/
def State.handToNoticeSender (s : State) (d : Descriptor) : State :=
  { s with notice := { s.notice with inbox := s.notice.inbox.set d.ingress (s.notice.inbox.get d.ingress ++ [d]) } }

/-- Route a valid frame (R2, R10). -/
def State.route (s : State) (d : Descriptor) : State :=
  if s.frameByte d 0 = s.agent.ownAddress then
    if s.frameByte d 2 = typeRequest then s.handToAgent d
    else if s.frameByte d 2 = typeNoticeAck then s.handToNoticeSender d
    else s.discardReceived d .rxToSelfOther
  else s.offerReady d

/-- The length field equals the total length minus 12 (R9, check 3). -/
def lengthMatches (frame : List Byte) : Bool := decide ((halfAt frame 6).toNat + 12 = frame.length)

/-- The check field equals the check over header and payload (R9, check 4; R174). -/
def checkMatches (frame : List Byte) : Bool :=
  decide (wordAtLe frame (frame.length - 4) = crc (frame.take (frame.length - 4)))

/-- The counter of the first check of R9 that a frame fails, or none. -/
def firstFailure (aborted : Bool) (frame : List Byte) : Option PortCounter :=
  if aborted then some .rxLengthError
  else if frame.length < 12 then some .rxLengthError
  else if !lengthMatches frame then some .rxLengthError
  else if !checkMatches frame then some .rxCheckError
  else none

/-! ## Meanings -/

/-- FRAME_START (R7): it starts a frame in IDLE; in DOWN it is ignored (R6). -/
def execFrameStart (p : Port) (s : State) : Host.Outcome State Fault Refusal :=
  match s.receivers.get p with
  | .idle => .next (s.setReceiver p (.receiving .start))
  | _ => .next s

/-- BLOCK_CLAIM (R7, R18). -/
def execBlockClaim (p : Port) (pick : BlockId) (bytes : List Byte) (s : State) : Host.Outcome State Fault Refusal :=
  match s.receivers.get p, bytes with
  | .receiving f, _ :: _ =>
    if atClaimPosition f.count then
      if s.store.claimGranted p then .next (s.grantClaim p f pick bytes)
      else .next ((s.giveUp p f .rxNoBuffer).raiseDiscard p 1 .rxNoBuffer)
    else .next s
  | _, _ => .next s

/-- OVERSIZE (R8). -/
def execOversize (p : Port) (s : State) : Host.Outcome State Fault Refusal :=
  match s.receivers.get p with
  | .receiving f => if f.count = Config.maxTotal then .next (s.giveUp p f .rxLengthError) else .next s
  | _ => .next s

/-- FRAME_END (R9, R10, R11). -/
def execFrameEnd (p : Port) (aborted : Bool) (s : State) : Host.Outcome State Fault Refusal :=
  match s.receivers.get p with
  | .receiving f =>
    let d := f.descriptor p
    let t := s.setReceiver p .idle
    match firstFailure aborted (s.frameBytes d) with
    | some counter => .next (t.discardReceived d counter)
    | none => .next (t.route d)
  | _ => .next s

/-- FRAME_END_IN_DISCARDING (R6). -/
def execFrameEndInDiscarding (p : Port) (s : State) : Host.Outcome State Fault Refusal :=
  match s.receivers.get p with
  | .discarding => .next (s.setReceiver p .idle)
  | _ => .next s

end Sys2Proof.Machine
end

