-- ==== Sys2Proof/Machine/Link.lean ====
section
/-! DEFINITION. Link state (section 1.2): the two link changes, and how each block takes a change to DOWN. -/

namespace Sys2Proof.Machine

/-- Replace the link state of port `p`. -/
def State.setLink (s : State) (p : Port) (l : LinkState) : State := { s with link := s.link.set p l }

/-- Replace the changes to DOWN that port `p`'s blocks have yet to take. -/
def State.setDownEvents (s : State) (p : Port) (e : DownEvents) : State :=
  s.setLink p { s.link.get p with down := e }

/-- What a change to DOWN cut, as the qualifier of LINK_DOWN: bit 0 the receiver, bit 1 the transmitter (R5). -/
def State.cutQualifier (s : State) (p : Port) : Byte :=
  (match s.receivers.get p with
   | .receiving _ => 1
   | .discarding => 1
   | _ => 0) +
  (match s.transmitters.get p with
   | .sending _ => 2
   | _ => 0)

/-- Port `p` is the notice port (R140). -/
def State.isNoticePort (s : State) (p : Port) : Bool :=
  match s.notice.destination with
  | some d => decide (d.port = p)
  | none => false

/-- Record a link change: the state, the time stamp, and the event with the time since the previous change (R4, R5). -/
def State.recordChange (s : State) (p : Port) (l : Link) (down : DownEvents) (kind : EventKind) (qualifier : Byte) :
    State :=
  (s.setLink p { recorded := l, lastChange := s.time, down := down }).raise kind (portCode p) qualifier
    (s.time - (s.link.get p).lastChange)

/-! ## Each block takes a change to DOWN -/

/-- The receiver takes it (R12). -/
def State.receiverTakesDown (s : State) (p : Port) : State :=
  if (s.link.get p).down.receiver then
    let t := s.setDownEvents p { (s.link.get p).down with receiver := false }
    match s.receivers.get p with
    | .receiving f => ((t.release (f.descriptor p)).count (.port p .rxLengthError) 1).setReceiver p .down
    | _ => t.setReceiver p .down
  else s

/-- A frame in transmission is abandoned (R15). -/
def State.abandon (s : State) (p : Port) : Sending → State
  | .response _ => s
  | .notice _ => s.dropSentNotice p
  | .forwarded d => (s.release d.desc).count (.port p .txFlushed) 1

/-- The transmitter takes it (R15). -/
def State.transmitterTakesDown (s : State) (p : Port) : State :=
  if (s.link.get p).down.transmitter then
    let t := s.setDownEvents p { (s.link.get p).down with transmitter := false }
    match s.transmitters.get p with
    | .sending f =>
      { (t.abandon p f).setTransmitter p .down with lineOut := s.lineOut.set p .abandoned }
    | _ => t.setTransmitter p .down
  else s

/-- Remove every descriptor of a forward queue, returning their blocks (R30). -/
def FrameStore.flush (st : FrameStore) (p : Port) : FrameStore :=
  (st.setForward p []).releaseAll ((st.forward.get p).map (·.desc))

/-- The frame store takes it: the flush of the forward queue (R30). -/
def State.storeTakesDown (s : State) (p : Port) : State :=
  if (s.link.get p).down.frameStore then
    let t := s.setDownEvents p { (s.link.get p).down with frameStore := false }
    { t with store := s.store.flush p }.count (.port p .txFlushed) (s.store.forward.get p).length
  else s

/-- The management agent takes it: the slots bound for the port are freed, pending results remain (R166). -/
def State.agentTakesDown (s : State) (p : Port) : State :=
  if (s.link.get p).down.agent then
    let t := s.setDownEvents p { (s.link.get p).down with agent := false }
    { t with
      agent :=
        { t.agent with
          responses := t.agent.responses.filter fun r => decide (r.port ≠ p)
          pendingResults := t.agent.pendingResults.map fun (r : PendingResult) =>
            if r.port = p then { r with slotReserved := false } else r } }
  else s

/-- A waiting NOTICE frame is discarded; one in transmission is not recalled (R141, R149). -/
def NoticeSender.discardWaiting (n : NoticeSender) : NoticeSender :=
  { n with frame := n.frame.filter fun f => f.inTransmission }

/-- The notice sender takes it, if the port is the notice port: a waiting NOTICE frame is discarded (R149).  DESIGN
CHOICE (notes/assumptions/26.md): the port must be the notice port at the change, which sets the flag, and still at this
take. -/
def State.noticeTakesDown (s : State) (p : Port) : State :=
  if (s.link.get p).down.noticeSender then
    let t := s.setDownEvents p { (s.link.get p).down with noticeSender := false }
    if s.isNoticePort p then { t with notice := t.notice.discardWaiting } else t
  else s

/-- Every block that has yet to take a change to DOWN of port `p` takes it. -/
def State.allTakeDown (s : State) (p : Port) : State :=
  ((((s.receiverTakesDown p).transmitterTakesDown p).storeTakesDown p).agentTakesDown p).noticeTakesDown p

/-! ## Meanings -/

/-- LINK_CHANGE_UP (R4, R5, R6, R13).  DEDUCED from R31 (notes/assumptions/5.md): a block that has not yet taken the
change to DOWN before it takes that first. -/
def execLinkChangeUp (p : Port) (s : State) : Host.Outcome State Fault Refusal :=
  match (s.link.get p).recorded with
  | .up => .next s
  | .down =>
    .next ((((s.allTakeDown p).recordChange p .up .none .linkUp 0).setReceiver p .idle).setTransmitter p .idle)

/-- LINK_CHANGE_DOWN (R4, R5, R26): recorded at once; the blocks concerned take it as events of their own.  DESIGN
CHOICE (notes/assumptions/26.md): whether the port is the notice port is tested here, and again when the notice sender
takes the change. -/
def execLinkChangeDown (p : Port) (s : State) : Host.Outcome State Fault Refusal :=
  match (s.link.get p).recorded with
  | .down => .next s
  | .up =>
    .next ((s.recordChange p .down ⟨true, true, true, true, s.isNoticePort p⟩ .linkDown (s.cutQualifier p)).setRunCount
      p 0)

/-- RECEIVER_LINK_DOWN (R12). -/
def execReceiverLinkDown (p : Port) (s : State) : Host.Outcome State Fault Refusal := .next (s.receiverTakesDown p)

/-- TRANSMITTER_LINK_DOWN (R15). -/
def execTransmitterLinkDown (p : Port) (s : State) : Host.Outcome State Fault Refusal :=
  .next (s.transmitterTakesDown p)

/-- FLUSH (R30). -/
def execFlush (p : Port) (s : State) : Host.Outcome State Fault Refusal := .next (s.storeTakesDown p)

/-- SLOT_FREE_AT_LINK_DOWN (R166). -/
def execSlotFreeAtLinkDown (p : Port) (s : State) : Host.Outcome State Fault Refusal := .next (s.agentTakesDown p)

/-- NOTICE_PORT_DOWN (R149). -/
def execNoticePortDown (p : Port) (s : State) : Host.Outcome State Fault Refusal := .next (s.noticeTakesDown p)

end Sys2Proof.Machine
end

