-- ==== Sys2Proof/Machine/Monitors.lean ====
section
/-! DEFINITION. The monitor unit (chapters 5 and 6): the transitions of one monitor, what a transition raises and
reports, and the meanings of MONITOR_TAKE_FRAME and of the five timer expiries. -/

namespace Sys2Proof.Machine

/-! ## Transitions of one monitor -/

/-- A transition: the runtime record after it, the event it raises (kind, qualifier, detail) and its report to the
disposition unit (R73, R87, R104). -/
structure Transition where
  run : MonitorRuntime
  event : Option (EventKind × Byte × Word)
  report : Option Bool

/-- A transition that raises and reports nothing. -/
def quietly (r : MonitorRuntime) : Transition := ⟨r, none, none⟩

/-- The last sample as an event's detail: 0 where it is absent, as for STALE (R87, R104). -/
def sampleDetail (r : MonitorRuntime) : Word := r.lastSample.getD 0

/-- Length of the decay timer (R95). -/
def decayLength (c : MonitorConfig) : Nat := c.decayInterval.toNat * 100

/-- Length of the expiry timer (R98). -/
def expiryLength (c : MonitorConfig) : Nat := c.latchExpiry.toNat * 1000

/-- A trip (R76, R94, R98).  `qualifier` is AT_ONCE (1) or DELAY (2). -/
def trip (c : MonitorConfig) (r : MonitorRuntime) (qualifier : Byte) : Transition :=
  let r := { r with delay := none, decay := none }
  if c.latchLimit = 0 then
    ⟨{ r with state := .tripped }, some (.monitorTrip, qualifier, sampleDetail r), some true⟩
  else if r.latchCounter + 1 = c.latchLimit.val then
    ⟨{ r with
        state := .latched
        latchCounter := r.latchCounter + 1
        expiry := if c.latchExpiry = 0 then none else some (expiryLength c) },
      some (.monitorLatch, qualifier, sampleDetail r), some true⟩
  else
    ⟨{ r with state := .tripped, latchCounter := r.latchCounter + 1 },
      some (.monitorTrip, qualifier, sampleDetail r), some true⟩

/-- The offending condition in NORMAL: a trip at once, or ALERT with its delay timer (R77, R82).  `qualifier` is
SAMPLE (1) or SILENCE (2), `detail` the offending value. -/
def offend (c : MonitorConfig) (r : MonitorRuntime) (qualifier : Byte) (detail : Word) : Transition :=
  if c.tripDelay = 0 then trip c r 1
  else
    ⟨{ r with state := .alert, delay := some c.tripDelay.toNat },
      if c.reportAlerts then some (.monitorAlert, qualifier, detail) else none, none⟩

/-- Entry into NORMAL from TRIPPED or RECOVERING: MONITOR_CLEAR, the report, and the decay timer when the counter is
above 0 (R79, R80, R84, R85, R95).  `qualifier` is AT_ONCE (1) or RECOVERY (2). -/
def clear (c : MonitorConfig) (r : MonitorRuntime) (qualifier : Byte) : Transition :=
  ⟨{ r with
      state := .normal
      recovery := none
      decay := if 0 < r.latchCounter then some (decayLength c) else r.decay },
    some (.monitorClear, qualifier, sampleDetail r), some false⟩

/-- The qualifying condition in TRIPPED: NORMAL at once, or RECOVERING with its recovery timer (R79, R84). -/
def recover (c : MonitorConfig) (r : MonitorRuntime) : Transition :=
  if c.recoveryTime = 0 then clear c r 1
  else quietly { r with state := .recovering, recovery := some c.recoveryTime.toNat }

/-- How a value is judged (R75). -/
inductive Judgement where
  | offending
  | band
  | qualifying
deriving DecidableEq, Repr

/-- Judge a value (R75).  A STALE monitor judges none; the last case is never asked. -/
def judge (c : MonitorConfig) (v : Word) : Judgement :=
  match c.kind with
  | .above =>
    if c.threshold.toNat < v.toNat then .offending
    else if c.threshold.toNat - c.hysteresis.toNat < v.toNat then .band else .qualifying
  | .below =>
    if v.toNat < c.threshold.toNat then .offending
    else if v.toNat < c.threshold.toNat + c.hysteresis.toNat then .band else .qualifying
  | .stale => .band

/-- An ABOVE or BELOW monitor takes a sample (R74, R77..R80, R99). -/
def takeSample (c : MonitorConfig) (r : MonitorRuntime) (v : Word) : Transition :=
  let r := { r with lastSample := some v }
  match r.state, judge c v with
  | .normal, .offending => offend c r 1 v
  | .alert, .band => quietly { r with state := .normal, delay := none }
  | .alert, .qualifying => quietly { r with state := .normal, delay := none }
  | .tripped, .qualifying => recover c r
  | .recovering, .band => quietly { r with state := .tripped, recovery := none }
  | .recovering, .offending => quietly { r with state := .tripped, recovery := none }
  | _, _ => quietly r

/-- A STALE monitor takes an arrival (R82..R85, R99). -/
def takeArrival (c : MonitorConfig) (r : MonitorRuntime) : Transition :=
  let heard := { r with silence := some c.threshold.toNat }
  match r.state with
  | .normal => quietly heard
  | .alert => quietly { heard with state := .normal, delay := none }
  | .tripped => recover c heard
  | .recovering => quietly heard
  | .latched => quietly r
  | .off => quietly r

/-- An ON monitor takes a frame of its class (R74). -/
def takeFrame (m : Monitor) (slots : Slots) : Transition :=
  match m.config.kind with
  | .stale => takeArrival m.config m.run
  | _ =>
    match slots[m.config.slot] with
    | some x => takeSample m.config m.run x.value
    | none => quietly m.run

/-- Leaving LATCHED into NORMAL (R100, R101).  `qualifier` is REQUEST (1) or EXPIRY (2). -/
def releaseLatch (c : MonitorConfig) (r : MonitorRuntime) (qualifier : Byte) : Transition :=
  ⟨{ r with
      state := .normal
      latchCounter := 0
      expiry := none
      silence := if c.kind = .stale then some c.threshold.toNat else r.silence },
    some (.monitorRelease, qualifier, sampleDetail r), some false⟩

/-- The delay timer's expiry (R78, R83).  It falls in ALERT alone; anywhere else it only stops. -/
def delayExpires (c : MonitorConfig) (r : MonitorRuntime) : Transition :=
  let r := { r with delay := none }
  match r.state with
  | .alert => trip c r 2
  | _ => quietly r

/-- The recovery timer's expiry (R80, R85). -/
def recoveryExpires (c : MonitorConfig) (r : MonitorRuntime) : Transition :=
  let r := { r with recovery := none }
  match r.state with
  | .recovering => clear c r 2
  | _ => quietly r

/-- The silence timer's expiry (R82, R85). -/
def silenceExpires (c : MonitorConfig) (r : MonitorRuntime) : Transition :=
  let r := { r with silence := none }
  match r.state with
  | .normal => offend c r 2 0
  | .recovering => quietly { r with state := .tripped, recovery := none }
  | _ => quietly r

/-- The decay timer's expiry (R96). -/
def decayExpires (c : MonitorConfig) (r : MonitorRuntime) : Transition :=
  match r.state with
  | .normal | .alert =>
    let left := r.latchCounter - 1
    quietly { r with latchCounter := left, decay := if 0 < left then some (decayLength c) else none }
  | _ => quietly { r with decay := none }

/-- The latch expiry timer's expiry (R100). -/
def latchExpires (c : MonitorConfig) (r : MonitorRuntime) : Transition :=
  match r.state with
  | .latched => releaseLatch c r 2
  | _ => quietly { r with expiry := none }

/-! ## What a transition does to the part -/

/-- Make a transition of monitor `m`: its record, then its event, then its report (R73). -/
def State.makeTransition (s : State) (m : MonitorId) (t : Transition) : State :=
  let s := s.setMonitor m { s.monitor m with run := t.run }
  let s :=
    match t.event with
    | some (kind, qualifier, detail) => s.raise kind (byteOf m.val) qualifier detail
    | none => s
  match t.report with
  | some engaged => s.report m engaged
  | none => s

/-- Monitor `m` takes a screened frame, if it is ON and has the frame's class (R74). -/
def State.monitorTakes (d : Screened) (s : State) (m : MonitorId) : State :=
  let x := s.monitor m
  if x.run.state ≠ .off ∧ x.config.cls = d.cls then s.makeTransition m (takeFrame x d.slots) else s

/-- Every ON monitor of the frame's class takes it, in ascending number (R86). -/
def State.monitorsTake (s : State) (d : Screened) : State :=
  (List.finRange 48).foldl (State.monitorTakes d) s

/-- A timer has expired and its expiry waits to be taken (R158). -/
def expired (t : Timer) : Bool := decide (t = some 0)

/-- Take the expiry of one timer of monitor `m`; a timer that has not expired brings no event (R72). -/
def State.takeExpiry (s : State) (m : MonitorId) (timer : MonitorRuntime → Timer)
    (expires : MonitorConfig → MonitorRuntime → Transition) : State :=
  let x := s.monitor m
  if expired (timer x.run) then s.makeTransition m (expires x.config x.run) else s

/-! ## Meanings -/

/-- MONITOR_TAKE_FRAME (R64, R86, R111): in HOLDING, the monitors and then the disposition unit take the frame in hand,
and the engine enters IDLE. -/
def execMonitorTakeFrame (s : State) : Host.Outcome State Fault Refusal :=
  match s.engine.phase with
  | .holding d _ _ =>
    let t := (s.monitorsTake d).decideFrame d
    .next { t with engine := { t.engine with phase := .idle } }
  | _ => .next s

/-- DELAY_TIMER_EXPIRY (R78). -/
def execDelayTimerExpiry (m : MonitorId) (s : State) : Host.Outcome State Fault Refusal :=
  .next (s.takeExpiry m (·.delay) delayExpires)

/-- RECOVERY_TIMER_EXPIRY (R80, R85). -/
def execRecoveryTimerExpiry (m : MonitorId) (s : State) : Host.Outcome State Fault Refusal :=
  .next (s.takeExpiry m (·.recovery) recoveryExpires)

/-- SILENCE_TIMER_EXPIRY (R82, R85). -/
def execSilenceTimerExpiry (m : MonitorId) (s : State) : Host.Outcome State Fault Refusal :=
  .next (s.takeExpiry m (·.silence) silenceExpires)

/-- DECAY_TIMER_EXPIRY (R96). -/
def execDecayTimerExpiry (m : MonitorId) (s : State) : Host.Outcome State Fault Refusal :=
  .next (s.takeExpiry m (·.decay) decayExpires)

/-- LATCH_EXPIRY_TIMER_EXPIRY (R100). -/
def execLatchExpiryTimerExpiry (m : MonitorId) (s : State) : Host.Outcome State Fault Refusal :=
  .next (s.takeExpiry m (·.expiry) latchExpires)

end Sys2Proof.Machine
end

