-- ==== Sys2Proof/Machine/MonitorCommands.lean ====
section
/-! DEFINITION. The commands of the monitor unit and of the disposition unit (R88..R91, R101, R110). -/

namespace Sys2Proof.Machine

/-- A command that names a monitor; a number outside 0..47 is refused (R88). -/
def withMonitor (r : Request) (k : MonitorId → Reply) : Reply :=
  match monitorOf (byteAt r.args 0) with
  | none => .refused .badArgument
  | some m => k m

/-- The monitor is engaged (R71). -/
def isEngaged : MonitorState → Bool
  | .tripped => true
  | .recovering => true
  | .latched => true
  | _ => false

/-- A monitor's start in NORMAL; STALE starts its silence timer (R89, R92). -/
def started (c : MonitorConfig) : MonitorRuntime :=
  { MonitorRuntime.off with
    state := .normal
    silence := if c.kind = .stale then some c.threshold.toNat else none }

/-- READ_MONITOR (R88). -/
def readMonitor (r : Request) (t : State) : Reply :=
  withMonitor r fun m => .done (byteAt r.args 0 :: monitorBytes (t.monitor m)) t

/-- WRITE_MONITOR (R91). -/
def writeMonitor (r : Request) (t : State) : Reply :=
  withMonitor r fun m =>
    if (t.monitor m).run.state ≠ .off then .refused .monitorActive
    else
      match configOf (r.args.drop 1) with
      | none => .refused .badArgument
      | some c => .done [] (t.setMonitor m { t.monitor m with config := c })

/-- START_MONITOR (R89). -/
def startMonitor (r : Request) (t : State) : Reply :=
  withMonitor r fun m =>
    let x := t.monitor m
    if x.run.state ≠ .off then .refused .monitorActive
    else .done [] (t.setMonitor m { x with run := started x.config })

/-- STOP_MONITOR (R90). -/
def stopMonitor (r : Request) (t : State) : Reply :=
  withMonitor r fun m =>
    let x := t.monitor m
    if x.run.state = .off then .done [] t
    else .done [] (t.makeTransition m ⟨.off, none, if isEngaged x.run.state then some false else none⟩)

/-- RELEASE_MONITOR (R101). -/
def releaseMonitor (r : Request) (t : State) : Reply :=
  withMonitor r fun m =>
    let x := t.monitor m
    if x.run.state ≠ .latched then .refused .notLatched
    else .done [] (t.makeTransition m (releaseLatch x.config x.run 1))

/-- SET_OVERRIDE (R110): the response carries the effective disposition after the request. -/
def setOverride (r : Request) (t : State) : Reply :=
  match classOf (byteAt r.args 0), overrideOf (byteAt r.args 1) with
  | some c, some o =>
    let t := (t.setClass c { t.classState c with override := o }).recompute c 256
    .done [byteOf (dispositionCode (t.classState c).effective)] t
  | _, _ => .refused .badArgument

/-! ## Meanings -/

/-- READ_MONITOR (R88). -/
def execReadMonitor (s : State) : Host.Outcome State Fault Refusal :=
  .next (s.executeCode codeReadMonitor 1 readMonitor)

/-- WRITE_MONITOR (R91). -/
def execWriteMonitor (s : State) : Host.Outcome State Fault Refusal :=
  .next (s.executeCode codeWriteMonitor 27 writeMonitor)

/-- START_MONITOR (R89). -/
def execStartMonitor (s : State) : Host.Outcome State Fault Refusal :=
  .next (s.executeCode codeStartMonitor 1 startMonitor)

/-- STOP_MONITOR (R90). -/
def execStopMonitor (s : State) : Host.Outcome State Fault Refusal :=
  .next (s.executeCode codeStopMonitor 1 stopMonitor)

/-- RELEASE_MONITOR (R101). -/
def execReleaseMonitor (s : State) : Host.Outcome State Fault Refusal :=
  .next (s.executeCode codeReleaseMonitor 1 releaseMonitor)

/-- SET_OVERRIDE (R110). -/
def execSetOverride (s : State) : Host.Outcome State Fault Refusal :=
  .next (s.executeCode codeSetOverride 2 setOverride)

end Sys2Proof.Machine
end

