-- ==== Sys2Proof/Machine/Notices.lean ====
section
/-! DEFINITION. The notice sender (chapter 9), and the meanings of NOTICE_ACK, NOTICE_FORMING and
RETRANSMIT_TIMER_EXPIRY. -/

namespace Sys2Proof.Machine

/-! ## Outstanding records (R141) -/

/-- Sequence number of the oldest record of a list. -/
def oldestSeq (l : List Queued) : Option Half := l.head?.map (·.record.seq)

/-- The list holds a record of this sequence number. -/
def holdsSeq (n : Half) (l : List Queued) : Bool := l.any fun q => decide (q.record.seq = n)

/-- The due records: from the resend point to the newest outstanding record (R141). -/
def dueRecords (resend : Option Half) (outstanding : List Queued) : List Queued :=
  match resend with
  | none => []
  | some n => outstanding.dropWhile fun q => decide (q.record.seq ≠ n)

/-- The retransmit timeout in ticks (R139). -/
def NoticeSender.timeoutTicks (n : NoticeSender) : Nat := n.timeout * 10

/-- Every outstanding record becomes due, and a waiting frame is discarded (R141). -/
def State.makeAllDue (s : State) : State :=
  { s with notice := { s.notice.discardWaiting with resend := oldestSeq s.events.outstanding } }

/-! ## Acknowledgement (R144, R145) -/

/-- The records that stay outstanding after an acknowledgement through `n`. -/
def afterAck (n : Half) (outstanding : List Queued) : List Queued :=
  (outstanding.dropWhile fun q => decide (q.record.seq ≠ n)).tail

/-- The event queue's part of an acknowledgement: the records go, and a lost count above 0 is reported (R138). -/
def EventQueue.acknowledge (q : EventQueue) (time : Word) (n : Half) : EventQueue :=
  let q := { q with outstanding := afterAck n q.outstanding }
  if q.lost = 0 then q
  else { q.store time .eventsLost 0 0 (BitVec.ofNat 32 q.lost) with lost := 0 }

/-- The notice sender's part of an acknowledgement that leaves `rest` outstanding (R141, R145). -/
def NoticeSender.acknowledge (n : NoticeSender) (rest : List Queued) : NoticeSender :=
  { n with
    retries := 0
    timer := if rest.isEmpty then none else some n.timeoutTicks
    state := match n.state with
      | .stalled => .active
      | st => st
    resend := match n.resend with
      | none => none
      | some k => if holdsSeq k rest then some k else oldestSeq rest }

/-- An accepted acknowledgement through `n` (R145). -/
def State.acknowledge (s : State) (n : Half) : State :=
  if holdsSeq n s.events.outstanding then
    { s with
      events := s.events.acknowledge s.time n
      notice := s.notice.acknowledge (afterAck n s.events.outstanding) }
  else s.count (.notice .acksIgnored) 1

/-- The frame is accepted: a destination is set, and it comes from that address on that port (R144). -/
def State.acceptsAck (s : State) (source : Byte) (p : Port) : Bool :=
  match s.notice.destination with
  | some d => decide (d.address = source) && decide (d.port = p)
  | none => false

/-- The notice sender reads a NOTICE_ACK frame, whose blocks it then frees (R10, R144, R176). -/
def State.readAck (s : State) (d : Descriptor) : State :=
  let t := s.release d
  if s.acceptsAck (s.frameByte d 1) d.ingress then
    let t := t.count (.port d.ingress .rxGood) 1
    if d.total < 14 then t.count (.notice .acksIgnored) 1
    else t.acknowledge (s.frameByte d 8 ++ s.frameByte d 9)
  else t.count (.port d.ingress .rxToSelfOther) 1

/-! ## Forming (R142) -/

/-- The due records that the next frame carries (R142). -/
def State.nextDue (s : State) : List Queued :=
  (dueRecords s.notice.resend s.events.outstanding).take Config.recordsPerNotice

/-- How many unsent records the next frame carries (R142). -/
def State.nextUnsentCount (s : State) : Nat :=
  min (min (Config.recordsPerNotice - s.nextDue.length) (Config.noticeWindow - s.events.outstanding.length))
    s.events.unsent.length

/-- The records that the next frame carries (R142). -/
def State.nextRecords (s : State) : List Queued := s.nextDue ++ s.events.unsent.take s.nextUnsentCount

/-- A carried record is marked so. -/
def markCarried (q : Queued) : Queued := { q with carried := true }

/-- The NOTICE frame with these records for a destination (R16, R142, R176). -/
def State.noticeFor (s : State) (dst : Destination) (records : List Queued) : NoticeFrame :=
  { frame :=
      { dest := dst.address, source := s.agent.ownAddress, ftype := typeNotice
        seq := (oldestSeq records).getD 0
        payload := records.flatMap fun q => eventBytes q.record }
    port := dst.port
    inTransmission := false }

/-- Form a NOTICE frame with the records of `nextRecords` (R141, R142). -/
def State.formNotice (s : State) (dst : Destination) : State :=
  let records := s.nextRecords
  let k := s.nextUnsentCount
  let t :=
    { s with
      events :=
        { s.events with
          outstanding := s.events.outstanding ++ (s.events.unsent.take k).map markCarried
          unsent := s.events.unsent.drop k }
      notice :=
        { s.notice with
          frame := some (s.noticeFor dst records)
          resend := oldestSeq ((dueRecords s.notice.resend s.events.outstanding).drop Config.recordsPerNotice)
          timer := match s.notice.timer with
            | none => some s.notice.timeoutTicks
            | some n => some n } }
  if records.any (·.carried) then t.count (.notice .retransmissions) 1 else t

/-! ## Meanings -/

/-- NOTICE_ACK (R144, R145): the notice sender reads the oldest acknowledgement frame handed over from port `p`. -/
def execNoticeAck (p : Port) (s : State) : Host.Outcome State Fault Refusal :=
  match s.notice.inbox.get p with
  | [] => .next s
  | d :: rest => .next ({ s with notice := { s.notice with inbox := s.notice.inbox.set p rest } }.readAck d)

/-- NOTICE_FORMING (R142). -/
def execNoticeForming (s : State) : Host.Outcome State Fault Refusal :=
  match s.notice.state, s.notice.frame, s.notice.destination with
  | .active, none, some dst => if s.nextRecords.isEmpty then .next s else .next (s.formNotice dst)
  | _, _, _ => .next s

/-- RETRANSMIT_TIMER_EXPIRY (R146): above 5 retries the sender stalls, else every outstanding record is due again. -/
def execRetransmitTimerExpiry (s : State) : Host.Outcome State Fault Refusal :=
  if s.notice.timer = some 0 then
    let n := s.notice.retries + 1
    if 5 < n then
      .next { s with notice := { s.notice with retries := n, timer := none, state := .stalled } }
    else
      let t := s.makeAllDue
      .next { t with notice := { t.notice with retries := n, timer := some t.notice.timeoutTicks } }
  else .next s

end Sys2Proof.Machine
end

