-- ==== Sys2Proof/Machine/NoticeCommands.lean ====
section
/-! DEFINITION. The commands of the notice sender: SET_NOTICE and RESUME_NOTICE (R147, R148). -/

namespace Sys2Proof.Machine

/-- SET_NOTICE with a destination (R147). -/
def State.setDestination (s : State) (dst : Destination) (timeout : Nat) : State :=
  let t := s.makeAllDue
  { t with
    notice :=
      { t.notice with state := .active, destination := some dst, timeout := timeout, timer := none, retries := 0 } }

/-- SET_NOTICE with no destination (R147): outstanding records return to unsent. -/
def State.clearDestination (s : State) (timeout : Nat) : State :=
  { s with
    events := { s.events with outstanding := [], unsent := s.events.outstanding ++ s.events.unsent }
    notice :=
      { s.notice.discardWaiting with
        state := .off, destination := none, timeout := timeout, timer := none, retries := 0, resend := none } }

/-- SET_NOTICE (R147, R175): without a destination the address and port bytes are not examined. -/
def setNotice (r : Request) (t : State) : Reply :=
  let timeout := (byteAt r.args 3).toNat
  if timeout = 0 then .refused .badArgument
  else
    match boolOf (byteAt r.args 0), portOf (byteAt r.args 2) with
    | some false, _ => .done [] (t.clearDestination timeout)
    | some true, some p =>
      if byteAt r.args 1 = 255 then .refused .badArgument
      else .done [] (t.setDestination ⟨byteAt r.args 1, p⟩ timeout)
    | _, _ => .refused .badArgument

/-- RESUME_NOTICE (R148): with no record outstanding only the state, the timer and the retry count are set. -/
def resumeNotice (t : State) : Reply :=
  if t.notice.state = .off then .done [] t
  else
    let u := if t.events.outstanding = [] then t else t.makeAllDue
    .done [] { u with notice := { u.notice with state := .active, timer := none, retries := 0 } }

/-! ## Meanings -/

/-- SET_NOTICE (R147). -/
def execSetNotice (s : State) : Host.Outcome State Fault Refusal := .next (s.executeCode codeSetNotice 4 setNotice)

/-- RESUME_NOTICE (R148). -/
def execResumeNotice (s : State) : Host.Outcome State Fault Refusal :=
  .next (s.executeCode codeResumeNotice 0 fun _ t => resumeNotice t)

end Sys2Proof.Machine
end

