-- ==== Sys2Proof/Machine/Reset.lean ====
section
/-! DEFINITION. The two resets: the meanings of POWER_ON_RESET and of RESTART, block by block. -/

namespace Sys2Proof.Machine

/-! ## What a RESTART does to each block -/

/-- Link state: the recorded state stays, the last-change time stamp is 0 (R4).  A receiver, and a transmitter that was
not SENDING, still takes a change to DOWN that it has not taken; for the others the RESTART leaves nothing of it
(notes/assumptions/6.md). -/
def LinkState.restart (l : LinkState) (t : Transmitter) : LinkState :=
  { l with
    lastChange := 0
    down :=
      { DownEvents.none with
        receiver := l.down.receiver
        transmitter := match t with
          | .sending _ => false
          | _ => l.down.transmitter } }

/-- A receiver (R6): a frame in progress is abandoned and its rest discarded. -/
def Receiver.restart : Receiver → Receiver
  | .receiving _ => .discarding
  | r => r

/-- A transmitter (R13): SENDING ends, and the transmitter is IDLE if its port is UP. -/
def Transmitter.restart (t : Transmitter) (l : Link) : Transmitter :=
  match t, l with
  | .sending _, .up => .idle
  | .sending _, .down => .down
  | t, _ => t

/-- The line of a transmitter: a frame being sent ends with an abort indication (R13). -/
def LineOut.restart (o : LineOut) (t : Transmitter) : LineOut :=
  match t with
  | .sending _ => .aborted
  | _ => o

/-- The frame store (R32); the blocks keep their old bytes (R17). -/
def FrameStore.restart (st : FrameStore) : FrameStore := { FrameStore.powerOn with bytes := st.bytes }

/-- The screening engine (R53, R68). -/
def Engine.restart (e : Engine) : Engine := { Engine.powerOn with activeBank := e.activeBank }

/-- How many entries a copy cut by a RESTART had copied: a free value, 0..256 (R131, notes/assumptions/3.md). -/
def State.copiedEntries (s : State) : Nat := Config.copyProgress s.freeUses % 257

/-- The table service (R131). -/
def State.restartTables (s : State) : State :=
  let t :=
    match s.tables.state with
    | .copying =>
      { s.setBank s.shadow (copiedSoFar (s.bank s.engine.activeBank) (s.bank s.shadow) s.copiedEntries) with
        freeUses := s.freeUses + 1 }
    | _ => s
  { t with
    tables :=
      { t.tables with
        state := .idle
        reports := []
        verify := match s.tables.state with
          | .idle => s.tables.verify
          | .verifying => .unverified
          | .switchPending _ => .passed
          | .copying => .unverified } }

/-- A monitor (R92). -/
def Monitor.restart (m : Monitor) : Monitor :=
  match m.run.state with
  | .off => m
  | _ => { m with run := started m.config }

/-- A class (R105): the override stays, the engaged list empties. -/
def ClassState.restart (c : ClassState) : ClassState :=
  { override := c.override, engaged := [], effective := effectiveOf c.override [] }

/-- The notice sender (R139, R140). -/
def NoticeSender.restart (n : NoticeSender) : NoticeSender :=
  { NoticeSender.powerOn with
    state := match n.destination with
      | some _ => .active
      | none => .off
    destination := n.destination
    timeout := n.timeout }

/-- The management agent (R159, R173). -/
def Agent.restart (a : Agent) : Agent :=
  { Agent.powerOn with ownAddress := a.ownAddress, portSet := a.portSet, sources := a.sources }

/-- Every block takes the RESTART of request `r` at the one event (R173). -/
def State.restartAll (s : State) (r : Request) : State :=
  let t := s.restartTables
  { t with
    link := ⟨s.link.a.restart s.transmitters.a, s.link.b.restart s.transmitters.b⟩
    receivers := ⟨s.receivers.a.restart, s.receivers.b.restart⟩
    transmitters := ⟨s.transmitters.a.restart s.link.a.recorded, s.transmitters.b.restart s.link.b.recorded⟩
    lineOut := ⟨s.lineOut.a.restart s.transmitters.a, s.lineOut.b.restart s.transmitters.b⟩
    store := s.store.restart
    runCount := .both 0
    engine := s.engine.restart
    monitors := s.monitors.map Monitor.restart
    classes := s.classes.map ClassState.restart
    events := .restarted (portCode r.port) 2 (r.source.setWidth 32)
    notice := s.notice.restart
    counters := .zero
    time := 0
    agent := s.agent.restart }

/-! ## Meanings -/

/-- POWER_ON_RESET (R135 and the power-on values of every chapter).  The queue of commands is not the part's, and the
model's own count of free values runs on. -/
def execPowerOnReset (s : State) : Host.Outcome State Fault Refusal :=
  .next { State.reset with pending := s.pending, freeUses := s.freeUses }

/-- RESTART (R173).  One with arguments is refused BAD_ARGUMENT like any other request (R163). -/
def execRestart (s : State) : Host.Outcome State Fault Refusal :=
  match s.agent.requests with
  | [] => .next s
  | r :: _ =>
    if r.command = codeRestart ∧ s.agent.slotFree = true ∧ r.args = [] then
      .next ((s.restartAll r).respond r.port r.source r.seq r.tag r.command .done [])
    else .next (s.execute (fun c => decide (c = codeRestart)) fun _ _ => .refused .badArgument)

end Sys2Proof.Machine
end

