-- ==== Sys2Proof/Machine/Screening.lean ====
section
/-! DEFINITION. The screening engine (chapters 3 and 4): the evaluation of one entry, the walk, and the meanings of
FRAME_TAKE, WALK_COMPLETION and SWITCH_REQUEST. -/

namespace Sys2Proof.Machine

/-- Four absent sample slots. -/
def noSlots : Slots := Vector.replicate 4 none

/-! ## Evaluating one entry (R41..R47) -/

/-- The outcome of one evaluation: a fault, or an action with its argument and the cursor and slots it leaves. -/
inductive Evaluation where
  | fault (k : FaultKind)
  | act (a : Action) (arg : Byte) (cursor : Nat) (slots : Slots)
deriving DecidableEq, Repr

/-- The effective offset of an entry's window (R41). -/
def effectiveOffset (e : Entry) (cursor : Nat) : Nat :=
  match e.base with
  | .frame => e.offset.val
  | .cursor => cursor + e.offset.val

/-- The test of an entry on the masked window value (R43). -/
def testHolds (t : Test) (v operand : Word) : Bool :=
  match t with
  | .always => true
  | .equal => decide (v = operand)
  | .notEqual => decide (v ≠ operand)
  | .below => decide (v.toNat < operand.toNat)
  | .notBelow => decide (operand.toNat ≤ v.toNat)

/-- The cursor after a match (R45). -/
def steppedCursor (e : Entry) (cursor : Nat) (v : Word) : Nat :=
  match e.cursorMode with
  | .none => cursor
  | .addConstant => cursor + e.cursorConst.toNat
  | .addValue => cursor + (v.toNat + e.cursorConst.toNat)

/-- The slots after a match (R44). -/
def extracted (e : Entry) (offset : Nat) (v : Word) (slots : Slots) : Slots :=
  match e.extract with
  | none => slots
  | some k => slots.set k.val (some ⟨v, offset, e.width, e.mask⟩) k.isLt

/-- One evaluation, in the order of R46.  Header and payload end 4 bytes before the total length (R41). -/
def evaluate (cells : List Host.Cell) (d : Descriptor) (e : Entry) (cursor : Nat) (slots : Slots) : Evaluation :=
  let offset := effectiveOffset e cursor
  if d.total < offset + widthBytes e.width + 4 then .fault .windowRange
  else
    let v := windowValue cells d offset e.width &&& e.mask
    if testHolds e.test v e.operand then
      let cursor' := steppedCursor e cursor v
      if Config.maxCursor < cursor' then .fault .cursorRange
      else .act e.matchAction e.matchArg cursor' (extracted e offset v slots)
    else .act e.missAction e.missArg cursor slots

/-! ## The walk (R55..R61) -/

/-- How a walk ends: with a verdict (R60), or with a fault and the entry at fault (R57..R59). -/
inductive WalkEnd where
  | verdict (v : Verdict) (cls : ClassId) (slots : Slots) (stepsUsed : Nat)
  | fault (k : FaultKind) (entry : Nat) (stepsUsed : Nat)
deriving DecidableEq, Repr

/-- The steps of a walk that has `left` steps left in its budget (R56). -/
def walkSteps (cells : List Host.Cell) (d : Descriptor) (b : Bank) (length : Nat) :
    (left : Nat) → (entry cursor steps : Nat) → Slots → WalkEnd
  | 0, entry, _, steps, _ => .fault .stepBudget entry steps
  | left + 1, entry, cursor, steps, slots =>
    match evaluate cells d (b.entries[entry]?.getD .powerOn) cursor slots with
    | .fault k => .fault k entry (steps + 1)
    | .act .accept arg _ slots' => .verdict .accept (argClass arg) slots' (steps + 1)
    | .act .drop arg _ slots' => .verdict .drop (argClass arg) slots' (steps + 1)
    | .act .next arg cursor' slots' =>
      if arg.toNat < length then walkSteps cells d b length left arg.toNat cursor' (steps + 1) slots'
      else .fault .targetRange entry (steps + 1)

/-- A whole walk from its walk state (R37, R55, R56, R59). -/
def walkEnd (cells : List Host.Cell) (d : Descriptor) (b : Bank) (w : Walk) : WalkEnd :=
  if w.header.length.val = 0 then .verdict .accept 0 noSlots 1
  else if w.header.length.val ≤ w.entry then .fault .targetRange 256 1
  else walkSteps cells d b w.header.length.val (w.header.budget - w.steps) w.entry w.cursor w.steps w.slots

/-- The verdict that a bank's fault disposition gives (R61). -/
def faultVerdict : FaultDisposition → Verdict
  | .forwardUnclassified => .accept
  | .dropUnclassified => .drop

/-- The descriptor with the screening result in it, the fault kind and the steps used (R60, R61, R62). -/
def screeningResult (d : Descriptor) (w : Walk) : WalkEnd → Screened × Option FaultKind × Nat
  | .verdict v c slots n => (⟨d, v, c, slots⟩, none, n)
  | .fault k _ n => (⟨d, faultVerdict w.header.faultDisposition, 0, noSlots⟩, some k, n)

/-- The SCREEN counter and the SCREEN_FAULT record of a walk that ended in a fault (R62, R63). -/
def State.reportFault (s : State) (p : Port) : WalkEnd → State
  | .verdict .. => s
  | .fault k entry _ =>
    (s.count (.screen k) 1).raise .screenFault (portCode p) (faultCode k) (BitVec.ofNat 32 entry)

/-! ## Taking a frame (R54, R55) -/

/-- The port whose head descriptor a take would take (R54). -/
def State.takePort (s : State) : Option Port :=
  match s.store.ready.a, s.store.ready.b with
  | [], [] => none
  | _ :: _, [] => some .a
  | [], _ :: _ => some .b
  | _ :: _, _ :: _ => some (opposite s.engine.lastServed)

/-- The entry point of a header for a port (R35). -/
def entryPoint (h : Header) : Port → Nat
  | .a => h.entryA.val
  | .b => h.entryB.val

/-- The walk state at a take (R55). -/
def State.startWalk (s : State) (p : Port) : Walk :=
  let h := (s.bank s.engine.activeBank).header
  { bank := s.engine.activeBank, header := h, entry := entryPoint h p, cursor := 8, steps := 0, slots := noSlots }

/-- The frame in hand is the head of port `p`'s ready list, which it leaves (R21, R54). -/
def State.takeHead (s : State) (p : Port) (rest : List Descriptor) : State :=
  { s with store := s.store.setReady p rest, engine := { s.engine with lastServed := p, takeMayPrecede := false } }

/-- A posted switch request comes before any take: the engine makes the switch at once in HOLDING and in IDLE (R65, R127),
but for the one take that reached it together with the request (DEDUCED, notes/assumptions/27.md). -/
def State.requestPrecedesTake (s : State) : Bool := s.engine.switchPosted && !s.engine.takeMayPrecede

/-! ## The end of a walk (R62..R65) -/

/-- The walk of frame `d` has ended as `e`: the result is written and counted, a fault is reported, and the engine holds
the frame (R62, R63, R64). -/
def State.finishWalk (s : State) (d : Descriptor) (w : Walk) (e : WalkEnd) : State :=
  let r := screeningResult d w e
  ({ s with engine := { s.engine with phase := .holding r.1 r.2.1 r.2.2 } }.count (.cls r.1.cls .screened) 1).reportFault
    d.ingress e

/-- The engine takes the posted switch request (R65). -/
def State.takeRequest (s : State) : State :=
  { s with engine := { s.engine with switchPosted := false, takeMayPrecede := false } }

/-- The switch that waits for the end of a walk is made: one that is pending (R65), and one that is posted and not yet
taken (DEDUCED, notes/assumptions/27.md). -/
def State.makeAwaitedSwitch (s : State) : State :=
  if s.engine.switchPosted || s.engine.switchPending then s.takeRequest.switchBanks else s

/-- The walk of the frame in hand completes (R56..R65). -/
def State.completeWalk (s : State) (d : Descriptor) (w : Walk) : State :=
  (s.finishWalk d w (walkEnd s.store.bytes d (s.bank w.bank) w)).makeAwaitedSwitch

/-! ## Meanings -/

/-- FRAME_TAKE (R54, R55).  No frame is taken while a switch is pending, nor before a posted request that precedes it:
it is walked under the new active bank (R65, R127).  A walk that evaluates no entry, under the empty program or from an
entry point at or beyond the length, completes at once.  DESIGN CHOICE (notes/assumptions/28.md): the take may come at any
time after a join in IDLE, so also after a join to each of two empty lists; it then goes by the last served port. -/
def execFrameTake (s : State) : Host.Outcome State Fault Refusal :=
  match s.engine.phase, s.engine.switchPending || s.requestPrecedesTake, s.takePort with
  | .idle, false, some p =>
    match s.store.ready.get p with
    | [] => .next s
    | d :: rest =>
      let t := s.takeHead p rest
      let w := s.startWalk p
      if w.entry < w.header.length.val then .next { t with engine := { t.engine with phase := .walking d w } }
      else .next (t.completeWalk d w)
  | _, _, _ => .next s

/-- WALK_COMPLETION (R56..R65). -/
def execWalkCompletion (s : State) : Host.Outcome State Fault Refusal :=
  match s.engine.phase with
  | .walking d w => .next (s.completeWalk d w)
  | _ => .next s

/-- SWITCH_REQUEST (R65): the request is made good at once, or waits for the end of the walk. -/
def execSwitchRequest (s : State) : Host.Outcome State Fault Refusal :=
  if s.engine.switchPosted then
    let t := s.takeRequest
    match t.engine.phase with
    | .walking _ _ => .next { t with engine := { t.engine with switchPending := true } }
    | _ => .next t.switchBanks
  else .next s

end Sys2Proof.Machine
end

