-- ==== Sys2Proof/Machine/TimeBase.lean ====
section
/-! DEFINITION. The time base (chapter 10), and the meaning of TICK. -/

namespace Sys2Proof.Machine

/-- One tick of a timer: a running timer comes one tick nearer to its expiry, at which it waits for its owner
(R157, R158). -/
def tickTimer : Timer → Timer
  | none => none
  | some n => some (n - 1)

/-- One tick of a monitor's five timers. -/
def tickRuntime (r : MonitorRuntime) : MonitorRuntime :=
  { r with
    delay := tickTimer r.delay
    recovery := tickTimer r.recovery
    silence := tickTimer r.silence
    decay := tickTimer r.decay
    expiry := tickTimer r.expiry }

/-- One tick of a monitor. -/
def tickMonitor (m : Monitor) : Monitor := { m with run := tickRuntime m.run }

/-- TICK (R156, R157): the time stamp goes up by 1 and every running timer comes one tick nearer to its expiry. -/
def execTick (s : State) : Host.Outcome State Fault Refusal :=
  .next { s with
    time := s.time + 1
    monitors := s.monitors.map tickMonitor
    notice := { s.notice with timer := tickTimer s.notice.timer } }

end Sys2Proof.Machine
end

