-- ==== Sys2Proof/Machine/Dispatch.lean ====
section
/-! DEFINITION. exec: one arm per command, each one call of the command's meaning. -/

namespace Sys2Proof.Machine

/-- The effect of a command on everything but the queue of commands. -/
def exec (i : Instr) (s : State) : Host.Outcome State Fault Refusal :=
  match i with
  | .powerOnReset => Sys2Proof.Machine.execPowerOnReset s
  | .linkChangeUp p => Sys2Proof.Machine.execLinkChangeUp p s
  | .linkChangeDown p => Sys2Proof.Machine.execLinkChangeDown p s
  | .receiverLinkDown p => Sys2Proof.Machine.execReceiverLinkDown p s
  | .transmitterLinkDown p => Sys2Proof.Machine.execTransmitterLinkDown p s
  | .flush p => Sys2Proof.Machine.execFlush p s
  | .slotFreeAtLinkDown p => Sys2Proof.Machine.execSlotFreeAtLinkDown p s
  | .noticePortDown p => Sys2Proof.Machine.execNoticePortDown p s
  | .frameStart p => Sys2Proof.Machine.execFrameStart p s
  | .blockClaim p pick bytes => Sys2Proof.Machine.execBlockClaim p pick bytes s
  | .oversize p => Sys2Proof.Machine.execOversize p s
  | .frameEnd p aborted => Sys2Proof.Machine.execFrameEnd p aborted s
  | .mgmtRequestArrival p => Sys2Proof.Machine.execMgmtRequestArrival p s
  | .noticeAck p => Sys2Proof.Machine.execNoticeAck p s
  | .frameTake => Sys2Proof.Machine.execFrameTake s
  | .walkCompletion => Sys2Proof.Machine.execWalkCompletion s
  | .switchRequest => Sys2Proof.Machine.execSwitchRequest s
  | .monitorTakeFrame => Sys2Proof.Machine.execMonitorTakeFrame s
  | .purge c => Sys2Proof.Machine.execPurge c s
  | .egressGrant p => Sys2Proof.Machine.execEgressGrant p s
  | .endOfTransmission p => Sys2Proof.Machine.execEndOfTransmission p s
  | .tick => Sys2Proof.Machine.execTick s
  | .delayTimerExpiry m => Sys2Proof.Machine.execDelayTimerExpiry m s
  | .recoveryTimerExpiry m => Sys2Proof.Machine.execRecoveryTimerExpiry m s
  | .silenceTimerExpiry m => Sys2Proof.Machine.execSilenceTimerExpiry m s
  | .decayTimerExpiry m => Sys2Proof.Machine.execDecayTimerExpiry m s
  | .latchExpiryTimerExpiry m => Sys2Proof.Machine.execLatchExpiryTimerExpiry m s
  | .retransmitTimerExpiry => Sys2Proof.Machine.execRetransmitTimerExpiry s
  | .verifyExaminationComplete => Sys2Proof.Machine.execVerifyExaminationComplete s
  | .copyComplete => Sys2Proof.Machine.execCopyComplete s
  | .resultReport => Sys2Proof.Machine.execResultReport s
  | .noticeForming => Sys2Proof.Machine.execNoticeForming s
  | .identify => Sys2Proof.Machine.execIdentify s
  | .setAddress => Sys2Proof.Machine.execSetAddress s
  | .setAccess => Sys2Proof.Machine.execSetAccess s
  | .readHeader => Sys2Proof.Machine.execReadHeader s
  | .writeHeader => Sys2Proof.Machine.execWriteHeader s
  | .readEntries => Sys2Proof.Machine.execReadEntries s
  | .writeEntries => Sys2Proof.Machine.execWriteEntries s
  | .verify => Sys2Proof.Machine.execVerify s
  | .commit => Sys2Proof.Machine.execCommit s
  | .readMonitor => Sys2Proof.Machine.execReadMonitor s
  | .writeMonitor => Sys2Proof.Machine.execWriteMonitor s
  | .startMonitor => Sys2Proof.Machine.execStartMonitor s
  | .stopMonitor => Sys2Proof.Machine.execStopMonitor s
  | .releaseMonitor => Sys2Proof.Machine.execReleaseMonitor s
  | .setOverride => Sys2Proof.Machine.execSetOverride s
  | .readStatus => Sys2Proof.Machine.execReadStatus s
  | .readCounters => Sys2Proof.Machine.execReadCounters s
  | .setNotice => Sys2Proof.Machine.execSetNotice s
  | .resumeNotice => Sys2Proof.Machine.execResumeNotice s
  | .restart => Sys2Proof.Machine.execRestart s
  | .badCommand => Sys2Proof.Machine.execBadCommand s
  | .frameEndInDiscarding p => Sys2Proof.Machine.execFrameEndInDiscarding p s

end Sys2Proof.Machine
end

