-- ==== Sys2Proof/Safety.lean ====
section
/-! DEFINITION. What holds of the part in every run: the laws that the spec's prose states of the whole machine, each as
a predicate on one state. -/

namespace Sys2Proof.Machine

/-! ## Blocks (R17, R18) -/

/-- The frame in progress at the receiver of port `p`, if it holds one. -/
def receivingFrames (p : Port) : Receiver → List Descriptor
  | .receiving f => [f.descriptor p]
  | _ => []

/-- The frame in hand of the screening engine. -/
def engineFrames : Phase → List Descriptor
  | .idle => []
  | .walking d _ => [d]
  | .holding d _ _ => [d.desc]

/-- The forwarded frame in transmission, if there is one. -/
def sendingFrames : Transmitter → List Descriptor
  | .sending (.forwarded d) => [d.desc]
  | _ => []

/-- Every frame that holds blocks, wherever it is (the holders of R17). -/
def State.heldFrames (s : State) : List Descriptor :=
  receivingFrames .a s.receivers.a ++ receivingFrames .b s.receivers.b ++
  s.store.ready.a ++ s.store.ready.b ++ engineFrames s.engine.phase ++
  s.store.forward.a.map (·.desc) ++ s.store.forward.b.map (·.desc) ++
  sendingFrames s.transmitters.a ++ sendingFrames s.transmitters.b ++
  s.agent.inbox.a ++ s.agent.inbox.b ++ s.agent.requests.map (·.frame) ++
  s.notice.inbox.a ++ s.notice.inbox.b

/-- Each block of the pool is on the free list or held by one frame, never both and never twice (R17). -/
def BlocksConserved (s : State) : Prop :=
  (s.store.free ++ s.heldFrames.flatMap (·.blocks)).Perm allBlocks

/-- Number of blocks that frames of a list hold against a port's share (R18). -/
def blocksFrom (p : Port) (l : List Descriptor) : Nat :=
  ((l.filter fun d => decide (d.ingress = p)).map fun d => d.blocks.length).sum

/-- Blocks held by the frames that arrived on a port (R18). -/
def State.heldFrom (s : State) (p : Port) : Nat := blocksFrom p s.heldFrames

/-- Each share count is the number of blocks held by frames that arrived on the port, and at most 64 (R18). -/
def SharesTrue (s : State) : Prop :=
  ∀ p, s.store.share.get p = s.heldFrom p ∧ s.store.share.get p ≤ Config.portShare

/-- Number of blocks of a frame of a total length: the length divided by 64, rounded up (R7). -/
def blocksFor (total : Nat) : Nat := (total + 63) / 64

/-- Every frame that holds blocks is at most 508 bytes long and holds the blocks that its length needs (R1, R7). -/
def FramesSized (s : State) : Prop :=
  ∀ d ∈ s.heldFrames, d.total ≤ Config.maxTotal ∧ d.blocks.length = blocksFor d.total

/-- The frame in progress at each receiver has its running check: the check register after the bytes taken (1.3, R6,
R174). -/
def ReceptionsChecked (s : State) : Prop :=
  ∀ p f, s.receivers.get p = .receiving f →
    f.check = (s.frameBytes (f.descriptor p)).foldl crcByte crcStart

/-! ## The queues of the traffic path (R10, R21, R22, R31) -/

/-- Each ready list and inbox holds frames of its own port; each forward queue holds accepted frames of the opposite
port, and none while its port is DOWN and the flush of that change has been taken. -/
structure QueuesSound (s : State) : Prop where
  ready : ∀ p, ∀ d ∈ s.store.ready.get p, d.ingress = p
  requests : ∀ p, ∀ d ∈ s.agent.inbox.get p, d.ingress = p
  acks : ∀ p, ∀ d ∈ s.notice.inbox.get p, d.ingress = p
  forward : ∀ p, ∀ d ∈ s.store.forward.get p, d.desc.ingress = opposite p ∧ d.verdict = .accept
  flushed : ∀ p, (s.link.get p).recorded = .down → (s.link.get p).down.frameStore = false → s.store.forward.get p = []

/-! ## Capacities (R11, R22, R26, R136, R137, R139, R159) -/

/-- No collection of the part holds more than the spec gives it room for. -/
structure WithinCapacities (s : State) : Prop where
  ready : ∀ p, (s.store.ready.get p).length ≤ Config.readyCapacity
  forward : ∀ p, (s.store.forward.get p).length ≤ Config.forwardCapacity
  runCount : ∀ p, s.runCount.get p ≤ 3
  events : s.events.size ≤ Config.eventCapacity
  window : s.events.outstanding.length ≤ Config.noticeWindow
  lost : s.events.lost ≤ 65535
  requests : s.agent.requests.length ≤ Config.requestCapacity
  slots : s.agent.slotsInUse ≤ Config.responseSlots
  cache : s.agent.cache.length ≤ Config.cacheCapacity

/-! ## The banks (R35, R39, R50, R66, R123) -/

/-- Every stored entry is legal and every step budget is 1..64; the active bank meets the reference
conditions; so does a shadow bank whose verify state is PASSED; a switch is posted or pending, never both, only while the
table service waits for it, and it waits only with a verified shadow bank; a take may precede a posted switch only in
IDLE, and a switch is pending only during a walk (R65). -/
structure BanksSound (s : State) : Prop where
  legal : ∀ k, (∀ e ∈ (s.bank k).entries.toList, legalEntry e = true) ∧
    1 ≤ (s.bank k).header.budget ∧ (s.bank k).header.budget ≤ 64
  active : examine (s.bank s.engine.activeBank) = .passed
  shadow : s.tables.verify = .passed → examine (s.bank s.shadow) = .passed
  waiting : ∀ m, s.tables.state = .switchPending m → s.tables.verify = .passed
  posted : s.engine.switchPosted = true ∨ s.engine.switchPending = true → ∃ m, s.tables.state = .switchPending m
  once : ¬ (s.engine.switchPosted = true ∧ s.engine.switchPending = true)
  first : s.engine.takeMayPrecede = true → s.engine.switchPosted = true ∧ s.engine.phase = .idle
  pending : s.engine.switchPending = true → ∃ d w, s.engine.phase = .walking d w

/-- The frame in hand is walked under the bank that is active, with that bank's header and entry point, and the walk has
an entry to evaluate (R55, R65). -/
def WalkUnderActive (s : State) : Prop :=
  ∀ d w, s.engine.phase = .walking d w →
    w.bank = s.engine.activeBank ∧ w.header = (s.bank s.engine.activeBank).header ∧
      w.entry = entryPoint w.header d.ingress ∧ w.entry < w.header.length.val

/-! ## Monitors (R69, R71, R93) -/

/-- A monitor's records fit together: its configuration is legal, its latch counter and its LATCHED state agree with
its limit (R93), and each timer runs in exactly the states that R71 gives it. -/
structure MonitorSound (m : Monitor) : Prop where
  config : legalConfig m.config = true
  off : m.run.state = .off → m.run = .off
  counter : m.run.latchCounter ≤ m.config.latchLimit.val
  latched : m.run.state = .latched ↔ 1 ≤ m.config.latchLimit.val ∧ m.run.latchCounter = m.config.latchLimit.val
  delay : m.run.delay.isSome = true ↔ m.run.state = .alert
  recovery : m.run.recovery.isSome = true ↔ m.run.state = .recovering
  decay : m.run.decay.isSome = true ↔ (m.run.state = .normal ∨ m.run.state = .alert) ∧ 0 < m.run.latchCounter
  expiry : m.run.expiry.isSome = true ↔ m.run.state = .latched ∧ m.config.latchExpiry ≠ 0
  silence : m.run.silence.isSome = true ↔
    m.config.kind = .stale ∧ (m.run.state = .normal ∨ m.run.state = .recovering)
  lastSample : m.config.kind = .stale → m.run.lastSample = none

/-- Every monitor is sound. -/
def MonitorsSound (s : State) : Prop := ∀ m, MonitorSound (s.monitor m)

/-! ## Class dispositions (R105, R107) -/

/-- A monitor's entry in the engaged list of class `c`, if it is engaged and has that class. -/
def State.engagedEntry (s : State) (c : ClassId) (m : MonitorId) : Option Engaged :=
  let x := s.monitor m
  if x.config.cls = c ∧ isEngaged x.run.state = true then some ⟨m, x.config.consequence, x.config.slot⟩ else none

/-- Each class's engaged list is the set of its monitors in TRIPPED, RECOVERING or LATCHED, in ascending number, and
its effective disposition is the one R107 gives. -/
def DispositionsDerived (s : State) : Prop :=
  ∀ c, (s.classState c).engaged = (List.finRange 48).filterMap (s.engagedEntry c) ∧
    (s.classState c).effective = effectiveOf (s.classState c).override (s.classState c).engaged

/-! ## Events and notices (R136, R139..R146) -/

/-- The records' sequence numbers run consecutively up to the next-sequence value, and each repeat is 1..255 (R136). -/
def SequencesRun (s : State) : Prop :=
  (s.events.outstanding ++ s.events.unsent).map (·.record.seq) =
    (List.range s.events.size).map (fun i => s.events.nextSeq - BitVec.ofNat 16 (s.events.size - i)) ∧
  ∀ q ∈ s.events.outstanding ++ s.events.unsent, 1 ≤ q.record.repeats ∧ q.record.repeats ≤ 255

/-- The notice sender's items fit together: OFF is having no destination; the timer runs only over outstanding records
and never in OFF or STALLED; the retry count is 0..6 and 6 only in STALLED; the resend point names an outstanding
record (R139, R140, R141, R146). -/
structure NoticeSound (s : State) : Prop where
  off : s.notice.state = .off ↔ s.notice.destination = none
  offEmpty : s.notice.state = .off → s.events.outstanding = []
  timer : s.notice.timer.isSome = true → s.notice.state = .active ∧ s.events.outstanding ≠ []
  retries : s.notice.retries ≤ 5 ∨ s.notice.retries = 6 ∧ s.notice.state = .stalled
  resend : ∀ n, s.notice.resend = some n → holdsSeq n s.events.outstanding = true

/-! ## Links (R4, R6, R13) -/

/-- A receiver or transmitter is DOWN exactly when its port's recorded state is DOWN and it has taken that change. -/
def LinksFollowed (s : State) : Prop :=
  ∀ p, (s.receivers.get p = .down ↔ (s.link.get p).recorded = .down ∧ (s.link.get p).down.receiver = false) ∧
    (s.transmitters.get p = .down ↔ (s.link.get p).recorded = .down ∧ (s.link.get p).down.transmitter = false) ∧
    ((s.link.get p).recorded = .up → (s.link.get p).down = .none)

/-- The frames of the responses that are held for port `p` and in transmission. -/
def State.sentResponses (s : State) (p : Port) : List Originated :=
  (s.agent.responses.filter fun r => decide (r.port = p) && r.inTransmission).map (·.frame)

/-- Transmitters agree with the owners of what they send (R13, R14, R15, R143, R165, R166).  A transmitter is SENDING a
NOTICE frame exactly when the notice sender holds that frame as in transmission on its port.  It is SENDING a response
exactly when the agent holds that response, and no other, as in transmission on its port; a change to DOWN reaches the
two as separate events, and until the port is UP again this holds only while neither has taken it.  Once the agent has
taken it, it holds no response for the port. -/
structure TransmittersOwned (s : State) : Prop where
  notice : ∀ p f, s.transmitters.get p = .sending (.notice f) ↔ s.notice.frame = some ⟨f, p, true⟩
  responses : ∀ p,
    (s.link.get p).recorded = .up ∨ (s.link.get p).down.transmitter = true ∧ (s.link.get p).down.agent = true →
      s.sentResponses p = match s.transmitters.get p with
        | .sending (.response f) => [f]
        | _ => []
  freed : ∀ p, (s.link.get p).recorded = .down → (s.link.get p).down.agent = false →
    ∀ r ∈ s.agent.responses, r.port ≠ p

/-! ## The management agent (R159, R164, R170) -/

/-- The access configuration is one that R159 allows, no two reply-cache entries share a key, and every accepted
VERIFY or COMMIT that is not yet answered has its pending result. -/
structure AgentSound (s : State) : Prop where
  address : s.agent.ownAddress ≠ 0 ∧ s.agent.ownAddress ≠ 255
  ports : s.agent.portSet.a = true ∨ s.agent.portSet.b = true
  sources : s.agent.sources.length ≤ 4 ∧ s.agent.sources.Nodup ∧ (255 : Byte) ∉ s.agent.sources
  keys : s.agent.cache.Pairwise fun x y => ¬ (x.port = y.port ∧ x.source = y.source ∧ x.tag = y.tag)
  results : s.agent.pendingResults.length =
    s.tables.reports.length + (if s.tables.state = .idle then 0 else 1)

/-! ## Orders that do not matter (R17, R4) -/

/-- The two states differ at most in the order of their free lists, which is not significant (R17). -/
def SameButFreeOrder (s t : State) : Prop :=
  s.store.free.Perm t.store.free ∧ s = { t with store := { t.store with free := s.store.free } }

/-! ## Requests and their answers (R160, R163, R164, R165) -/

/-- Request `r` is the head of the request queue, carries the command code, and a response slot is free: its execution
can start (R163). -/
def State.Executes (s : State) (r : Request) (code : Byte) : Prop :=
  s.agent.requests.head? = some r ∧ r.command = code ∧ s.agent.slotsInUse < Config.responseSlots

/-- The state that a request leaves once it has been answered from state `t`: its response is built, cached and held,
its blocks are back, and its execution is counted. -/
def State.answered (t : State) (r : Request) (u : Status) (results : List Byte) : State :=
  (t.respond r.port r.source r.seq r.tag r.command u results).endExecution r

/-- The commands that are executions of a request, RESTART apart. -/
def requestCommands : List Instr :=
  [.identify, .setAddress, .setAccess, .readHeader, .writeHeader, .readEntries, .writeEntries, .verify, .commit,
   .readMonitor, .writeMonitor, .startMonitor, .stopMonitor, .releaseMonitor, .setOverride, .readStatus, .readCounters,
   .setNotice, .resumeNotice, .badCommand]

/-- The group that a counter belongs to (R152). -/
def groupOfCounter : CounterId → Group
  | .port p _ => .port p
  | .cls k _ => .cls k
  | .screen _ => .screen
  | .mgmt _ => .mgmt
  | .notice _ => .notice

/-! ## The frame store's bytes (R17) -/

/-- The bytes of the pool are in their canonical form. -/
def BytesCanonical (s : State) : Prop := Memory.wf s.store.bytes = true

end Sys2Proof.Machine
end

