-- ==== Sys2Proof/Certificates/Slice0/Obligations.lean ====
section
/-! DEFINITION. The statements for the provers, in the order of OBLIGATIONS.json: the queue of commands, the invariants
of the whole part, the wire formats, the rules that do not depend on a command, and what each command does. -/

section

open Sys2Proof Sys2Proof.Machine

/-! ## The queue of commands -/

/-- A step runs the command at the front of the queue on the state with the queue's rest.  That an empty queue leaves
the part as it is, is the model's choice (notes/assumptions/1.md). -/
def Obligations.StepRunsTheFrontCommand : Prop :=
  (∀ (c : Instr) (rest : List Instr) (s : State),
    s.pending = c :: rest → step s = exec c { s with pending := rest }) ∧
  ∀ s : State, s.pending = [] → step s = .next s

/-- Every command answers a next state (DEDUCED, notes/assumptions/22.md; where its event cannot occur, the part as it is:
DESIGN CHOICE, notes/assumptions/7.md), keeps the queue of commands, and does not depend on it (the queue is the model's
own: notes/assumptions/1.md). -/
def Obligations.CommandsIgnoreTheQueue : Prop :=
  ∀ (c : Instr) (s : State) (q : List Instr),
    ∃ t, exec c s = .next t ∧ t.pending = s.pending ∧ exec c { s with pending := q } = .next { t with pending := q }

/-! ## Invariants that every step keeps -/

/-- R17: each block stays on the free list or with one frame, where receivers and transmitters follow their links. -/
def Obligations.BlocksStayConserved : Prop :=
  ∀ s t : State, LinksFollowed s → BlocksConserved s → step s = .next t → BlocksConserved t

/-- R18, R19: each share count stays the number of blocks of its port's frames, at most 64, where receivers and
transmitters follow their links. -/
def Obligations.SharesStayTrue : Prop :=
  ∀ s t : State, LinksFollowed s → SharesTrue s → step s = .next t → SharesTrue t

/-- R1, R7: every frame that holds blocks stays at most 508 bytes long, with the blocks its length needs. -/
def Obligations.FramesStaySized : Prop :=
  ∀ s t : State, FramesSized s → step s = .next t → FramesSized t

/-- Section 1.3 and R6: while a frame is being stored, the running check is the check register over the bytes taken,
whatever the other frames do to their own blocks. -/
def Obligations.RunningChecksStayTrue : Prop :=
  ∀ s t : State, BytesCanonical s → BlocksConserved s → FramesSized s → ReceptionsChecked s → step s = .next t →
    ReceptionsChecked t

/-- R10, R21, R22, R31: the queues of the traffic path keep holding the frames that belong in them, and a forward queue
stays empty from its flush until its port is UP again. -/
def Obligations.QueuesStaySound : Prop :=
  ∀ s t : State, QueuesSound s → step s = .next t → QueuesSound t

/-- R11, R22, R26, R136, R137, R159: no collection outgrows its capacity. -/
def Obligations.CapacitiesStayKept : Prop :=
  ∀ s t : State, WithinCapacities s → step s = .next t → WithinCapacities t

/-- R35, R39, R50, R66, R123, R127: every stored entry and step budget stays legal, and the active bank keeps meeting the
reference conditions, through writes, copies, commits and resets.  The posted switch, and whether a
take may precede it, are items of the model's (notes/assumptions/10.md, notes/assumptions/27.md). -/
def Obligations.BanksStaySound : Prop :=
  ∀ s t : State, BanksSound s → step s = .next t → BanksSound t

/-- R55, R65: a frame is walked from its take to its end under the bank that was active at the take, from the entry point
of its port; a walk without an entry to evaluate never stays in WALKING. -/
def Obligations.WalksStayUnderTheActiveBank : Prop :=
  ∀ s t : State, QueuesSound s → WalkUnderActive s → step s = .next t → WalkUnderActive t

/-- R69, R71, R93, R95: each monitor's records and timers keep fitting its state. -/
def Obligations.MonitorsStaySound : Prop :=
  ∀ s t : State, MonitorsSound s → step s = .next t → MonitorsSound t

/-- R105, R106, R107: each engaged list stays the list of the class's engaged monitors, and each effective disposition
the one that list and the override give. -/
def Obligations.DispositionsStayDerived : Prop :=
  ∀ s t : State, DispositionsDerived s → step s = .next t → DispositionsDerived t

/-- R134, R136: the records' sequence numbers stay consecutive, and each repeat stays in 1..255. -/
def Obligations.SequencesStayConsecutive : Prop :=
  ∀ s t : State, SequencesRun s → step s = .next t → SequencesRun t

/-- R139, R140, R141, R146: the notice sender's items keep fitting together. -/
def Obligations.NoticeSenderStaysSound : Prop :=
  ∀ s t : State, NoticeSound s → step s = .next t → NoticeSound t

/-- R4, R6, R13: receivers and transmitters keep following the recorded link states.  R13, R14, R15, R143, R165, R166: and
while they do, each transmitter keeps agreeing with the owner of the response or NOTICE frame that it sends.  The changes
to DOWN not yet taken are the model's items (notes/assumptions/10.md). -/
def Obligations.LinksStayFollowed : Prop :=
  (∀ s t : State, LinksFollowed s → step s = .next t → LinksFollowed t) ∧
  ∀ s t : State, LinksFollowed s → TransmittersOwned s → step s = .next t → TransmittersOwned t

/-- R159, R164, R170: the access configuration stays legal, cache keys stay distinct, and each VERIFY or COMMIT in
progress keeps its pending result. -/
def Obligations.AgentStaysSound : Prop :=
  ∀ s t : State, AgentSound s → step s = .next t → AgentSound t

/-- The bytes of the frame store keep their canonical form, which is the model's own (notes/assumptions/2.md). -/
def Obligations.BytesStayCanonical : Prop :=
  ∀ s t : State, BytesCanonical s → step s = .next t → BytesCanonical t

/-- The state after a power-on reset meets every one of these invariants. -/
def Obligations.ResetMeetsTheInvariants : Prop :=
  BlocksConserved State.reset ∧ SharesTrue State.reset ∧ FramesSized State.reset ∧ ReceptionsChecked State.reset ∧
    QueuesSound State.reset ∧ WithinCapacities State.reset ∧ BanksSound State.reset ∧ WalkUnderActive State.reset ∧
    MonitorsSound State.reset ∧ DispositionsDerived State.reset ∧ SequencesRun State.reset ∧ NoticeSound State.reset ∧
    LinksFollowed State.reset ∧ TransmittersOwned State.reset ∧ AgentSound State.reset ∧ BytesCanonical State.reset

/-! ## Wire formats (chapter 12) -/

/-- R39, R40, R175: the sixteen bytes of a legal entry decode to that entry; sixteen bytes that decode to an entry are
that entry's bytes, bit for bit, and the entry is legal. -/
def Obligations.EntriesRoundTrip : Prop :=
  (∀ e : Entry, legalEntry e = true → (entryBytes e).length = 16 ∧ entryOf (entryBytes e) = some e) ∧
  ∀ (bs : List Byte) (e : Entry), bs.length = 16 → entryOf bs = some e → entryBytes e = bs ∧ legalEntry e = true

/-- R35, R69, R175: the bytes of a legal header and of a legal configuration record decode to it, and bytes that decode
are the bytes of what they decode to. -/
def Obligations.HeadersAndMonitorRecordsRoundTrip : Prop :=
  (∀ h : Header, 1 ≤ h.budget → h.budget ≤ 64 → (headerBytes h).length = 6 ∧ headerOf (headerBytes h) = some h) ∧
  (∀ (bs : List Byte) (h : Header), bs.length = 6 → headerOf bs = some h →
    headerBytes h = bs ∧ 1 ≤ h.budget ∧ h.budget ≤ 64) ∧
  (∀ c : MonitorConfig, legalConfig c = true → (configBytes c).length = 26 ∧ configOf (configBytes c) = some c) ∧
  ∀ (bs : List Byte) (c : MonitorConfig), bs.length = 26 → configOf bs = some c →
    configBytes c = bs ∧ legalConfig c = true

/-- R174: the check of a run of bytes.  The register starts at 0xFFFFFFFF; each bit of each byte, least significant first,
is compared with the register's least significant bit, the register is shifted one place towards that end, and where the
two differed it is combined with 0xEDB88320; after the last bit it is complemented.  R9, R16: a frame that the part
originates is its header, its payload and that check over both, least significant byte first; with at most 496 payload
bytes it passes each of the four checks that a receiver makes at a frame's end. -/
def Obligations.OriginatedFramesAreValid : Prop :=
  (∀ bytes : List Byte,
    let bits := bytes.flatMap fun b => (List.range 8).map fun i => b.getLsbD i
    let taken := fun (register : Word) (bit : Bool) =>
      if register.getLsbD 0 = bit then register >>> 1 else (register >>> 1) ^^^ 0xEDB88320
    crc bytes = ~~~ (bits.foldl taken 0xFFFFFFFF)) ∧
  (∀ frame : List Byte,
    checkMatches frame = true ↔ wordAtLe frame (frame.length - 4) = crc (frame.take (frame.length - 4))) ∧
  ∀ f : Originated,
    let body := [f.dest, f.source, f.ftype, 0] ++ be16 f.seq ++ be16 (BitVec.ofNat 16 f.payload.length) ++ f.payload
    let c := crc body
    f.bytes = body ++ [c.extractLsb' 0 8, c.extractLsb' 8 8, c.extractLsb' 16 8, c.extractLsb' 24 8] ∧
    f.bytes.length = f.payload.length + 12 ∧ (f.payload.length ≤ 496 → firstFailure false f.bytes = none)

/-! ## Frames in the store -/

/-- R112, R114, R174: after flags are set and the check recomputed, the frame passes check 4 of R9 over the bytes that
are then sent; the flags byte has gained those flags and nothing else; header, payload and every byte outside the frame
are as they were. -/
def Obligations.MarkedFramesCarryTheirCheck : Prop :=
  ∀ (cells : List Host.Cell) (d : Descriptor) (bits : Byte),
    Memory.wf cells = true → d.blocks.Nodup → d.blocks.length = blocksFor d.total → 12 ≤ d.total →
    let after := recomputeCheck d (setFrameFlags d bits cells)
    checkMatches (frameBytes after d) = true ∧
    frameByte after d 3 = frameByte cells d 3 ||| bits ∧
    (∀ i, i < d.total - 4 → i ≠ 3 → frameByte after d i = frameByte cells d i) ∧
    ∀ a, (∀ i, i < d.total → frameAddress d i ≠ some a) → readCells after a = readCells cells a

/-- R114: rewriting a sample's window takes the substitute value's bits where the mask has a one and keeps the window's
bits where it has a zero; no other byte of the frame, and no byte outside it, changes.  The slots are rewritten one after
the other in ascending number, each over the bytes that the ones before it have left, so the last one's judged bits
stand. -/
def Obligations.SubstitutionReplacesJudgedBitsAlone : Prop :=
  (∀ (s : State) (c : ClassId), ((s.rewrites c).map (·.1)).Pairwise (· < ·)) ∧
  (∀ (d : Screened) (cells : List Host.Cell), rewriteSlots d [] cells = cells) ∧
  (∀ (d : Screened) (cells : List Host.Cell) (k : Fin 4) (value : Word) (rest : List (Fin 4 × Word)),
    (∀ x, d.slots[k] = some x →
      rewriteSlots d ((k, value) :: rest) cells = rewriteSlots d rest (rewriteSample d.desc x value cells)) ∧
    (d.slots[k] = none → rewriteSlots d ((k, value) :: rest) cells = rewriteSlots d rest cells)) ∧
  (∀ (d : Screened) (cells : List Host.Cell) (k : Fin 4) (value : Word) (before : List (Fin 4 × Word)) (x : Sample),
    Memory.wf cells = true → d.desc.blocks.Nodup → d.desc.blocks.length = blocksFor d.desc.total →
    d.slots[k] = some x → x.offset + widthBytes x.width ≤ d.desc.total →
    let after := rewriteSlots d (before ++ [(k, value)]) cells
    let low : Word := match x.width with
      | .one => 0xFF
      | .two => 0xFFFF
      | .four => 0xFFFFFFFF
    windowValue after d.desc x.offset x.width &&& x.mask = value &&& x.mask &&& low) ∧
  ∀ (cells : List Host.Cell) (d : Descriptor) (x : Sample) (value : Word),
    Memory.wf cells = true → d.blocks.Nodup → d.blocks.length = blocksFor d.total →
    x.offset + widthBytes x.width ≤ d.total →
    let after := rewriteSample d x value cells
    let kept := windowValue cells d x.offset x.width &&& ~~~ x.mask
    let low : Word := match x.width with
      | .one => 0xFF
      | .two => 0xFFFF
      | .four => 0xFFFFFFFF
    windowValue after d x.offset x.width = (kept ||| (value &&& x.mask)) &&& low ∧
    (∀ i, i < d.total → i < x.offset ∨ x.offset + widthBytes x.width ≤ i →
      frameByte after d i = frameByte cells d i) ∧
    ∀ a, (∀ i, x.offset ≤ i → i < x.offset + widthBytes x.width → frameAddress d i ≠ some a) →
      readCells after a = readCells cells a

/-! ## The screening program (chapters 3 and 4) -/

/-- R42: the window value is the unsigned number that the window's bytes form, most significant first, and mask bits
above the window's width have no effect. -/
def Obligations.WindowsReadMostSignificantFirst : Prop :=
  ∀ (cells : List Host.Cell) (d : Descriptor) (i : Nat) (mask : Word),
    let b := fun j => (frameByte cells d (i + j)).toNat
    (windowValue cells d i .one).toNat = b 0 ∧
    (windowValue cells d i .two).toNat = 256 * b 0 + b 1 ∧
    (windowValue cells d i .four).toNat = 16777216 * b 0 + 65536 * b 1 + 256 * b 2 + b 3 ∧
    windowValue cells d i .one &&& mask = windowValue cells d i .one &&& (mask &&& 0xFF) ∧
    windowValue cells d i .two &&& mask = windowValue cells d i .two &&& (mask &&& 0xFFFF)

/-- R41, R43, R44, R45, R46: one evaluation of an entry, for a window of `n` bytes at effective offset `o` of a frame
of `d.total` bytes (so that header and payload end at `d.total - 4`: DEDUCED, notes/assumptions/24.md). Beyond them
the evaluation faults.  A miss takes the miss action with cursor and slots as they are.  A match whose cursor step
passes 508 faults; any other match takes the match action with the cursor stepped and the sample, if the entry names a
slot, in that slot. -/
def Obligations.OneEvaluation : Prop :=
  ∀ (cells : List Host.Cell) (d : Descriptor) (e : Entry) (cursor : Nat) (slots : Slots),
    let o := (if e.base = .cursor then cursor else 0) + e.offset.val
    let v := windowValue cells d o e.width &&& e.mask
    let holds : Prop := match e.test with
      | .always => True
      | .equal => v = e.operand
      | .notEqual => v ≠ e.operand
      | .below => v.toNat < e.operand.toNat
      | .notBelow => e.operand.toNat ≤ v.toNat
    let stepped := match e.cursorMode with
      | .none => cursor
      | .addConstant => cursor + e.cursorConst.toNat
      | .addValue => cursor + v.toNat + e.cursorConst.toNat
    (d.total < o + widthBytes e.width + 4 → evaluate cells d e cursor slots = .fault .windowRange) ∧
    (o + widthBytes e.width + 4 ≤ d.total → ¬ holds →
      evaluate cells d e cursor slots = .act e.missAction e.missArg cursor slots) ∧
    (o + widthBytes e.width + 4 ≤ d.total → holds → 508 < stepped →
      evaluate cells d e cursor slots = .fault .cursorRange) ∧
    (o + widthBytes e.width + 4 ≤ d.total → holds → stepped ≤ 508 →
      ∃ slots', evaluate cells d e cursor slots = .act e.matchAction e.matchArg stepped slots' ∧
        ∀ k : Fin 4, slots'[k] = if e.extract = some k then some ⟨v, o, e.width, e.mask⟩ else slots[k])

/-- R49, R125: the examination passes exactly the banks that meet the three reference conditions; a failure on the header
is reported with index 256, one on an entry with the index and the reason of the first condition that fails. -/
def Obligations.ExaminationTestsTheReferenceConditions : Prop :=
  ∀ b : Bank,
    let length := b.header.length.val
    let entry := fun i => b.entries[i]?.getD .powerOn
    let badTarget : Entry → Prop := fun e =>
      (e.matchAction = .next ∧ length ≤ e.matchArg.toNat) ∨ (e.missAction = .next ∧ length ≤ e.missArg.toNat)
    let badWindow : Entry → Prop := fun e => e.base = .frame ∧ 504 < e.offset.val + widthBytes e.width
    let badHeader : Prop := 0 < length ∧ (length ≤ b.header.entryA.val ∨ length ≤ b.header.entryB.val)
    (examine b = .passed ↔ ¬ badHeader ∧ ∀ i, i < length → ¬ badTarget (entry i) ∧ ¬ badWindow (entry i)) ∧
    (badHeader → examine b = .failed 256 .entryRange) ∧
    ∀ i, ¬ badHeader → i < length → (∀ j, j < i → ¬ badTarget (entry j) ∧ ¬ badWindow (entry j)) →
      (badTarget (entry i) → examine b = .failed i .targetRange) ∧
      (¬ badTarget (entry i) → badWindow (entry i) → examine b = .failed i .windowRange)

/-- R37, R55..R60: how a walk ends, one step at a time.  An empty program accepts as class 0 with one step; an entry
point at or beyond the length faults at 256; a spent budget faults at the current entry; else the current entry is
evaluated, its fault, ACCEPT or DROP ends the walk, and its NEXT goes on at the target with the cursor and slots that the
evaluation leaves.  R50, R57..R60: under a bank of legal entries that meets the reference conditions, a walk that starts at
a take uses at most its step budget; it uses the whole of it when it ends in STEP_BUDGET; the entry at fault is below the
length, and no walk ends in TARGET_RANGE; a program's verdict ACCEPT has a class other than 0. -/
def Obligations.WalksKeepTheirBudget : Prop :=
  (∀ (cells : List Host.Cell) (d : Descriptor) (b : Bank) (w : Walk),
    let length := w.header.length.val
    let evaluation := evaluate cells d (b.entries[w.entry]?.getD .powerOn) w.cursor w.slots
    (length = 0 → walkEnd cells d b w = .verdict .accept 0 (Vector.replicate 4 none) 1) ∧
    (0 < length → length ≤ w.entry → walkEnd cells d b w = .fault .targetRange 256 1) ∧
    (w.entry < length → w.steps = w.header.budget →
      walkEnd cells d b w = .fault .stepBudget w.entry w.header.budget) ∧
    (w.entry < length → w.steps < w.header.budget →
      (∀ k, evaluation = .fault k → walkEnd cells d b w = .fault k w.entry (w.steps + 1)) ∧
      ∀ action arg cursor slots, evaluation = .act action arg cursor slots →
        (∀ c : ClassId, c.val = arg.toNat % 32 →
          (action = .accept → walkEnd cells d b w = .verdict .accept c slots (w.steps + 1)) ∧
          (action = .drop → walkEnd cells d b w = .verdict .drop c slots (w.steps + 1))) ∧
        (action = .next → length ≤ arg.toNat → walkEnd cells d b w = .fault .targetRange w.entry (w.steps + 1)) ∧
        (action = .next → arg.toNat < length → walkEnd cells d b w =
          walkEnd cells d b { w with entry := arg.toNat, cursor := cursor, steps := w.steps + 1, slots := slots }))) ∧
  ∀ (cells : List Host.Cell) (d : Descriptor) (b : Bank) (w : Walk),
    examine b = .passed → w.header = b.header → w.entry = entryPoint b.header d.ingress → w.steps = 0 →
    1 ≤ b.header.budget → (∀ e ∈ b.entries.toList, legalEntry e = true) →
    (∀ v c slots n, walkEnd cells d b w = .verdict v c slots n →
      1 ≤ n ∧ n ≤ b.header.budget ∧ (v = .accept → 0 < b.header.length.val → c ≠ 0)) ∧
    ∀ k i n, walkEnd cells d b w = .fault k i n →
      1 ≤ n ∧ n ≤ b.header.budget ∧ i < b.header.length.val ∧ (k = .stepBudget → n = b.header.budget) ∧
        k ≠ .targetRange

/-! ## Monitors and dispositions (chapters 5, 6 and 7) -/

/-- R75: how an ABOVE or BELOW monitor with a legal record judges a value. -/
def Obligations.ValuesAreJudged : Prop :=
  ∀ (c : MonitorConfig) (v : Word), legalConfig c = true →
    (c.kind = .above →
      (judge c v = .offending ↔ c.threshold.toNat < v.toNat) ∧
      (judge c v = .band ↔ c.threshold.toNat < v.toNat + c.hysteresis.toNat ∧ v.toNat ≤ c.threshold.toNat) ∧
      (judge c v = .qualifying ↔ v.toNat + c.hysteresis.toNat ≤ c.threshold.toNat)) ∧
    (c.kind = .below →
      (judge c v = .offending ↔ v.toNat < c.threshold.toNat) ∧
      (judge c v = .band ↔ c.threshold.toNat ≤ v.toNat ∧ v.toNat < c.threshold.toNat + c.hysteresis.toNat) ∧
      (judge c v = .qualifying ↔ c.threshold.toNat + c.hysteresis.toNat ≤ v.toNat))

/-- R74, R76..R80, R82..R85, R94, R98, R99: what a monitor takes from a frame, and the whole table of what one sample
does to an ABOVE or BELOW monitor, and what one frame of its class does to a STALE monitor: the record after it, the
event it raises and the report it makes. -/
def Obligations.FramesMoveTheirMonitors : Prop :=
  (∀ (m : Monitor) (slots : Slots),
    (m.config.kind = .stale → takeFrame m slots = takeArrival m.config m.run) ∧
    (m.config.kind = .above ∨ m.config.kind = .below →
      (∀ x, slots[m.config.slot] = some x → takeFrame m slots = takeSample m.config m.run x.value) ∧
      (slots[m.config.slot] = none → takeFrame m slots = ⟨m.run, none, none⟩))) ∧
  (∀ (c : MonitorConfig) (r : MonitorRuntime) (v : Word),
    let r' := { r with lastSample := some v }
    (r.state = .normal → judge c v = .offending → c.tripDelay = 0 → takeSample c r v = trip c r' 1) ∧
    (r.state = .normal → judge c v = .offending → c.tripDelay ≠ 0 →
      takeSample c r v = ⟨{ r' with state := .alert, delay := some c.tripDelay.toNat },
        if c.reportAlerts then some (.monitorAlert, 1, v) else none, none⟩) ∧
    (r.state = .normal → judge c v ≠ .offending → takeSample c r v = ⟨r', none, none⟩) ∧
    (r.state = .alert → judge c v = .offending → takeSample c r v = ⟨r', none, none⟩) ∧
    (r.state = .alert → judge c v ≠ .offending →
      takeSample c r v = ⟨{ r' with state := .normal, delay := none }, none, none⟩) ∧
    (r.state = .tripped → judge c v ≠ .qualifying → takeSample c r v = ⟨r', none, none⟩) ∧
    (r.state = .tripped → judge c v = .qualifying → c.recoveryTime = 0 →
      takeSample c r v = ⟨{ r' with
          state := .normal
          recovery := none
          decay := if 0 < r.latchCounter then some (c.decayInterval.toNat * 100) else r.decay },
        some (.monitorClear, 1, v), some false⟩) ∧
    (r.state = .tripped → judge c v = .qualifying → c.recoveryTime ≠ 0 →
      takeSample c r v = ⟨{ r' with state := .recovering, recovery := some c.recoveryTime.toNat }, none, none⟩) ∧
    (r.state = .recovering → judge c v = .qualifying → takeSample c r v = ⟨r', none, none⟩) ∧
    (r.state = .recovering → judge c v ≠ .qualifying →
      takeSample c r v = ⟨{ r' with state := .tripped, recovery := none }, none, none⟩) ∧
    (r.state = .latched → takeSample c r v = ⟨r', none, none⟩)) ∧
  ∀ (c : MonitorConfig) (r : MonitorRuntime),
    let heard := { r with silence := some c.threshold.toNat }
    (r.state = .normal ∨ r.state = .recovering → takeArrival c r = ⟨heard, none, none⟩) ∧
    (r.state = .alert → takeArrival c r = ⟨{ heard with state := .normal, delay := none }, none, none⟩) ∧
    (r.state = .tripped → c.recoveryTime = 0 →
      takeArrival c r = ⟨{ heard with
          state := .normal
          recovery := none
          decay := if 0 < r.latchCounter then some (c.decayInterval.toNat * 100) else r.decay },
        some (.monitorClear, 1, r.lastSample.getD 0), some false⟩) ∧
    (r.state = .tripped → c.recoveryTime ≠ 0 →
      takeArrival c r = ⟨{ heard with state := .recovering, recovery := some c.recoveryTime.toNat }, none, none⟩) ∧
    (r.state = .latched → takeArrival c r = ⟨r, none, none⟩)

/-- R76, R94, R98, R104: a trip cancels the delay and decay timers and is counted against the latch limit.  Below the
limit, or with limit 0, it enters TRIPPED with MONITOR_TRIP; at the limit it enters LATCHED with MONITOR_LATCH and starts
the expiry timer when the latch expiry is not 0.  In every case it is reported as engaged. -/
def Obligations.TripsAreCountedAgainstTheLimit : Prop :=
  ∀ (c : MonitorConfig) (r : MonitorRuntime) (q : Byte),
    let v := r.lastSample.getD 0
    (c.latchLimit.val = 0 →
      trip c r q = ⟨{ r with state := .tripped, delay := none, decay := none },
        some (.monitorTrip, q, v), some true⟩) ∧
    (r.latchCounter + 1 < c.latchLimit.val →
      trip c r q = ⟨{ r with state := .tripped, delay := none, decay := none, latchCounter := r.latchCounter + 1 },
        some (.monitorTrip, q, v), some true⟩) ∧
    (r.latchCounter + 1 = c.latchLimit.val →
      trip c r q = ⟨{ r with state := .latched, delay := none, decay := none, latchCounter := r.latchCounter + 1,
                             expiry := if c.latchExpiry = 0 then none else some (c.latchExpiry.toNat * 1000) },
        some (.monitorLatch, q, v), some true⟩)

/-- R107: where the engaged lists are those of R106, the effective disposition of a class is PASS under FORCE_PASS, BLOCK
under FORCE_BLOCK, and under AUTO the most severe consequence among its monitors in TRIPPED, RECOVERING or LATCHED. -/
def Obligations.DispositionsAreTheMostSevere : Prop :=
  ∀ (s : State) (c : ClassId), DispositionsDerived s →
    let asked : Consequence → Prop := fun k => ∃ m, (s.monitor m).config.cls = c ∧
      (s.monitor m).config.consequence = k ∧ ((s.monitor m).run.state = .tripped ∨
        (s.monitor m).run.state = .recovering ∨ (s.monitor m).run.state = .latched)
    let k := s.classState c
    (k.override = .forcePass → k.effective = .pass) ∧
    (k.override = .forceBlock → k.effective = .block) ∧
    (k.override = .auto →
      (asked .block → k.effective = .block) ∧
      (¬ asked .block → asked .substitute → k.effective = .substitute) ∧
      (¬ asked .block → ¬ asked .substitute → asked .mark → k.effective = .mark) ∧
      (¬ asked .block → ¬ asked .substitute → ¬ asked .mark → k.effective = .pass))

/-- R113: where the engaged lists are those of R106, a slot is rewritten exactly when some engaged SUBSTITUTE monitor of
the class names it, and the lowest-numbered of these supplies the value. -/
def Obligations.LowestNumberedMonitorSupplies : Prop :=
  ∀ (s : State) (c : ClassId) (k : Fin 4) (value : Word), DispositionsDerived s →
    let names : MonitorId → Prop := fun m => (s.monitor m).config.cls = c ∧
      (s.monitor m).config.consequence = .substitute ∧ (s.monitor m).config.slot = k ∧
      ((s.monitor m).run.state = .tripped ∨ (s.monitor m).run.state = .recovering ∨
        (s.monitor m).run.state = .latched)
    (k, value) ∈ s.rewrites c ↔
      ∃ m, names m ∧ (s.monitor m).config.substituteValue = value ∧ ∀ n, names n → m ≤ n

/-- R73, R87, R104, R106, R108, R109: a transition writes the monitor's runtime record, then appends its event, if it has
one, then makes its report, if it has one; the report updates the class's engaged list, and where the effective
disposition changes it is taken, DISPOSITION_CHANGE is appended after the monitor's event, and a change into BLOCK
requests a purge.  Nothing else of the part changes. -/
def Obligations.TransitionsAreReported : Prop :=
  ∀ (s : State) (m : MonitorId) (r : MonitorRuntime) (event : Option (EventKind × Byte × Word)) (engaged : Bool),
    let c := (s.monitor m).config
    let k := s.classState c.cls
    let l := if engaged then insertEngaged ⟨m, c.consequence, c.slot⟩ k.engaged
      else k.engaged.filter fun e => decide (e.monitor ≠ m)
    let new := effectiveOf k.override l
    let raised := match event with
      | some (kind, q, v) => s.events.append s.time kind (byteOf m.val) q v
      | none => s.events
    s.makeTransition m ⟨r, event, none⟩ =
      { s with monitors := s.monitors.set m.val ⟨c, r⟩ m.isLt, events := raised } ∧
    s.makeTransition m ⟨r, event, some engaged⟩ =
      { s with
        monitors := s.monitors.set m.val ⟨c, r⟩ m.isLt
        classes := s.classes.set c.cls.val ⟨k.override, l, new⟩ c.cls.isLt
        events :=
          if new = k.effective then raised
          else raised.append s.time .dispositionChange (byteOf c.cls.val) (byteOf (dispositionCode new))
            (BitVec.ofNat 32 m.val)
        store :=
          { s.store with
            purges := if new ≠ k.effective ∧ new = .block then s.store.purges ++ [c.cls] else s.store.purges } }

/-! ## Events and counters (chapters 9 and 10) -/

/-- R134, R136, R137: an event of a coalescing kind joins the newest unsent record of its kind, subject and qualifier whose
repeat is below 255; any other event is stored as a new record with the next sequence number, or, where the queue holds 32
records, counted in the lost count, which stays at 65535. -/
def Obligations.EventsAreStoredCoalescedOrLost : Prop :=
  ∀ (q : EventQueue) (time : Word) (kind : EventKind) (subject qualifier : Byte) (detail : Word),
    let matching : Queued → Prop := fun x => (kind = .screenFault ∨ kind = .frameDiscard) ∧
      x.record.kind = kind ∧ x.record.subject = subject ∧ x.record.qualifier = qualifier ∧ x.record.repeats < 255
    let after := q.append time kind subject qualifier detail
    (∀ older x newer, q.unsent = older ++ x :: newer → matching x → (∀ y ∈ newer, ¬ matching y) →
      after = { q with unsent :=
        older ++ { x with record := { x.record with repeats := x.record.repeats + 1, detail := detail } } :: newer }) ∧
    ((∀ x ∈ q.unsent, ¬ matching x) → q.outstanding.length + q.unsent.length < 32 →
      after = { q with
        unsent := q.unsent ++ [⟨⟨q.nextSeq, time, kind, subject, 1, qualifier, detail⟩, false⟩]
        nextSeq := q.nextSeq + 1 }) ∧
    ((∀ x ∈ q.unsent, ¬ matching x) → 32 ≤ q.outstanding.length + q.unsent.length →
      after = { q with lost := min (q.lost + 1) 65535 })

/-- R151: an increment changes one counter, modulo 2147483648, and sets its overflow flag when it passes 2147483647. -/
def Obligations.CountersWrapAndFlag : Prop :=
  ∀ (s : State) (id : CounterId) (n : Nat),
    let t := s.count id n
    t = { s with counters := t.counters } ∧
    (∀ other, other ≠ id → t.counter other = s.counter other) ∧
    (t.counter id).value.toNat = ((s.counter id).value.toNat + n) % 2147483648 ∧
    ((t.counter id).overflow = true ↔
      (s.counter id).overflow = true ∨ 2147483648 ≤ (s.counter id).value.toNat + n)

/-! ## Resets and link changes (chapters 1 and 2) -/

/-- POWER_ON_RESET: the part is in State.reset, and it holds the values that the chapters give after a power-on reset (R4,
R6, R13, R17, R18, R21, R22, R26, R34, R38, R53, R69, R70, R105, R132, R135, R139, R151, R156, R159).  What
State.reset holds beside them is the model's choice: the pool's bytes are blank (notes/assumptions/2.md), the record of the
line is nothing (notes/assumptions/18.md), and no inbox (notes/assumptions/8.md) and no event not yet taken
(notes/assumptions/10.md) holds anything.  The queue of commands and the count of free values are the model's own and stay
(notes/assumptions/23.md). -/
def Obligations.PowerOnResetSetsTheSpecsValues : Prop :=
  ∀ s : State, ∃ t, exec .powerOnReset s = .next t ∧
    t = { State.reset with pending := s.pending, freeUses := s.freeUses } ∧
    (∀ p, (t.link.get p).recorded = .down ∧ (t.link.get p).lastChange = 0 ∧ t.receivers.get p = .down ∧
      t.transmitters.get p = .down ∧ t.store.share.get p = 0 ∧ t.store.ready.get p = [] ∧
      t.store.forward.get p = [] ∧ t.runCount.get p = 0) ∧
    (∀ b : BlockId, b ∈ t.store.free) ∧ t.store.free.length = 96 ∧
    t.engine.phase = .idle ∧ t.engine.activeBank = .bank0 ∧ t.engine.lastServed = .b ∧
    t.engine.switchPending = false ∧
    (∀ k, (t.bank k).header = ⟨0, 0, 0, 32, .forwardUnclassified⟩ ∧
      ∀ i : Fin 256, some (t.bank k).entries[i] = entryOf (List.replicate 16 0)) ∧
    t.tables.state = .idle ∧ t.tables.verify = .unverified ∧
    (∀ m, (t.monitor m).run = ⟨.off, 0, none, none, none, none, none, none⟩ ∧
      (t.monitor m).config = ⟨0, .above, 0, 0, 0, 0, 0, .note, 0, 0, 1, 0, false⟩) ∧
    (∀ c, t.classState c = ⟨.auto, [], .pass⟩) ∧
    t.events.outstanding = [] ∧ t.events.unsent.map (·.record) = [⟨0, 0, .restarted, 0, 1, 1, 0⟩] ∧
    t.events.nextSeq = 1 ∧ t.events.lost = 0 ∧
    t.notice.state = .off ∧ t.notice.destination = none ∧ t.notice.timeout = 20 ∧ t.notice.timer = none ∧
    t.notice.retries = 0 ∧ t.notice.resend = none ∧ t.notice.frame = none ∧
    (∀ id, t.counter id = ⟨0, false⟩) ∧ t.time = 0 ∧
    t.agent.ownAddress = 254 ∧ t.agent.portSet = ⟨true, false⟩ ∧ t.agent.sources = [] ∧ t.agent.requests = [] ∧
    t.agent.responses = [] ∧ t.agent.pendingResults = [] ∧ t.agent.cache = []

/-- LINK_CHANGE_DOWN and LINK_CHANGE_UP: R4, R5, R26.  A change is recorded with its time and its event; a change to
DOWN is left for the blocks concerned to take; a change to UP puts receiver and transmitter in IDLE; an input that stays
at the recorded level is no change.  That blocks which have yet to take a change to DOWN take it before the change to UP
is DEDUCED from R31 (notes/assumptions/5.md).  That the port is tested for being the notice port at the change to DOWN, and
again at the notice sender's taking of it, is the model's choice (notes/assumptions/26.md). -/
def Obligations.LinkChangesAreRecorded : Prop :=
  ∀ (p : Port) (s : State),
    let l := s.link.get p
    (s.isNoticePort p = true ↔ ∃ d, s.notice.destination = some d ∧ d.port = p) ∧
    (l.recorded = .up → ∃ cut : Byte, cut.toNat < 4 ∧
      (cut.getLsbD 0 = true ↔ (∃ f, s.receivers.get p = .receiving f) ∨ s.receivers.get p = .discarding) ∧
      (cut.getLsbD 1 = true ↔ ∃ f, s.transmitters.get p = .sending f) ∧
      exec (.linkChangeDown p) s = .next { s with
        link := s.link.set p ⟨.down, s.time, ⟨true, true, true, true, s.isNoticePort p⟩⟩
        events := s.events.append s.time .linkDown (portCode p) cut (s.time - l.lastChange)
        runCount := s.runCount.set p 0 }) ∧
    (l.recorded = .down → l.down = .none →
      exec (.linkChangeUp p) s = .next { s with
        link := s.link.set p ⟨.up, s.time, .none⟩
        events := s.events.append s.time .linkUp (portCode p) 0 (s.time - l.lastChange)
        receivers := s.receivers.set p .idle
        transmitters := s.transmitters.set p .idle }) ∧
    (l.recorded = .down → ∃ t₁ t₂ t₃ t₄ t₅ : State,
      exec (.receiverLinkDown p) s = .next t₁ ∧ exec (.transmitterLinkDown p) t₁ = .next t₂ ∧
      exec (.flush p) t₂ = .next t₃ ∧ exec (.slotFreeAtLinkDown p) t₃ = .next t₄ ∧
      exec (.noticePortDown p) t₄ = .next t₅ ∧ t₅.link.get p = { l with down := .none } ∧
      exec (.linkChangeUp p) s = exec (.linkChangeUp p) t₅) ∧
    (l.recorded = .down → exec (.linkChangeDown p) s = .next s) ∧
    (l.recorded = .up → exec (.linkChangeUp p) s = .next s)

/-- RECEIVER_LINK_DOWN, TRANSMITTER_LINK_DOWN, FLUSH, SLOT_FREE_AT_LINK_DOWN, NOTICE_PORT_DOWN: what each block does when
it takes a change to DOWN of its port (R12, R15, R19, R30, R149, R166).  A block that has no change to take does nothing
(notes/assumptions/7.md), and a port that is no longer the notice port leaves the notice sender as it is (the model's
choice, notes/assumptions/26.md).  The record of the line is the model's own (notes/assumptions/18.md). -/
def Obligations.BlocksTakeAChangeToDown : Prop :=
  ∀ (p : Port) (s : State),
    let e := (s.link.get p).down
    let taken := fun e' => s.link.set p { s.link.get p with down := e' }
    let gone := (s.store.forward.get p).map (·.desc)
    (∀ f, e.receiver = true → s.receivers.get p = .receiving f →
      exec (.receiverLinkDown p) s = .next { s with
        link := taken { e with receiver := false }
        receivers := s.receivers.set p .down
        store := { s.store with
          free := s.store.free ++ f.blocks
          share := s.store.share.set p (s.store.share.get p - f.blocks.length) }
        counters := (s.count (.port p .rxLengthError) 1).counters }) ∧
    (e.receiver = true → (∀ f, s.receivers.get p ≠ .receiving f) →
      exec (.receiverLinkDown p) s = .next { s with
        link := taken { e with receiver := false }
        receivers := s.receivers.set p .down }) ∧
    (∀ d : Screened, e.transmitter = true → s.transmitters.get p = .sending (.forwarded d) →
      exec (.transmitterLinkDown p) s = .next { s with
        link := taken { e with transmitter := false }
        transmitters := s.transmitters.set p .down
        lineOut := s.lineOut.set p .abandoned
        store := { s.store with
          free := s.store.free ++ d.desc.blocks
          share := s.store.share.set d.desc.ingress (s.store.share.get d.desc.ingress - d.desc.blocks.length) }
        counters := (s.count (.port p .txFlushed) 1).counters }) ∧
    (∀ f, e.transmitter = true → s.transmitters.get p = .sending (.response f) →
      exec (.transmitterLinkDown p) s = .next { s with
        link := taken { e with transmitter := false }
        transmitters := s.transmitters.set p .down
        lineOut := s.lineOut.set p .abandoned }) ∧
    (∀ f, e.transmitter = true → s.transmitters.get p = .sending (.notice f) →
      exec (.transmitterLinkDown p) s = .next { s with
        link := taken { e with transmitter := false }
        transmitters := s.transmitters.set p .down
        lineOut := s.lineOut.set p .abandoned
        notice := { s.notice with
          frame := s.notice.frame.filter fun x => !(decide (x.port = p) && x.inTransmission) } }) ∧
    (e.transmitter = true → (∀ f, s.transmitters.get p ≠ .sending f) →
      exec (.transmitterLinkDown p) s = .next { s with
        link := taken { e with transmitter := false }
        transmitters := s.transmitters.set p .down }) ∧
    (e.frameStore = true → ∃ share : PerPort Nat,
      (∀ q, share.get q = s.store.share.get q - blocksFrom q gone) ∧
      exec (.flush p) s = .next { s with
        link := taken { e with frameStore := false }
        store := { s.store with
          forward := s.store.forward.set p []
          free := s.store.free ++ gone.flatMap (·.blocks)
          share := share }
        counters := (s.count (.port p .txFlushed) gone.length).counters }) ∧
    (e.agent = true →
      exec (.slotFreeAtLinkDown p) s = .next { s with
        link := taken { e with agent := false }
        agent := { s.agent with
          responses := s.agent.responses.filter fun r => decide (r.port ≠ p)
          pendingResults := s.agent.pendingResults.map fun (r : PendingResult) =>
            { r with slotReserved := decide (r.port ≠ p) && r.slotReserved } } }) ∧
    (e.noticeSender = true → s.isNoticePort p = true →
      exec (.noticePortDown p) s = .next { s with
        link := taken { e with noticeSender := false }
        notice := { s.notice with frame := s.notice.frame.filter fun x => x.inTransmission } }) ∧
    (e.noticeSender = true → s.isNoticePort p = false →
      exec (.noticePortDown p) s = .next { s with link := taken { e with noticeSender := false } }) ∧
    (e.receiver = false → exec (.receiverLinkDown p) s = .next s) ∧
    (e.transmitter = false → exec (.transmitterLinkDown p) s = .next s) ∧
    (e.frameStore = false → exec (.flush p) s = .next s) ∧
    (e.agent = false → exec (.slotFreeAtLinkDown p) s = .next s) ∧
    (e.noticeSender = false → exec (.noticePortDown p) s = .next s)

/-- Section 1.6 and R4: the events by which the blocks take one change to DOWN "may be taken in any order, and the
outcome is the same for every order", but for the order of the free list, which is not significant (R17). -/
def Obligations.ChangesToDownCommute : Prop :=
  ∀ (p : Port) (s : State) (c c' : Instr),
    let events := [Instr.receiverLinkDown p, .transmitterLinkDown p, .flush p, .slotFreeAtLinkDown p, .noticePortDown p]
    c ∈ events → c' ∈ events →
    ∃ t t' u u', exec c s = .next t ∧ exec c' t = .next u ∧ exec c' s = .next t' ∧ exec c t' = .next u' ∧
      SameButFreeOrder u u'

/-! ## Reception (chapter 1) -/

/-- FRAME_START, BLOCK_CLAIM, OVERSIZE, FRAME_END_IN_DISCARDING: R6, R7, R8, R18, R24.  A granted claim takes a free
block (which one, the frame store chooses: notes/assumptions/4.md) and the bytes that fit into it and below position
508; no byte outside that block changes.  A receiver in DOWN takes no part in any of this (R6). -/
def Obligations.FramesAreTakenBlockByBlock : Prop :=
  (∀ (p : Port) (s : State), s.receivers.get p = .down →
    exec (.frameStart p) s = .next s ∧ exec (.oversize p) s = .next s ∧ exec (.frameEndInDiscarding p) s = .next s ∧
    (∀ pick bytes, exec (.blockClaim p pick bytes) s = .next s) ∧
    ∀ aborted, exec (.frameEnd p aborted) s = .next s) ∧
  (∀ (p : Port) (s : State), s.receivers.get p = .idle →
    exec (.frameStart p) s = .next { s with
      receivers := s.receivers.set p (.receiving ⟨0, [], 0xFFFFFFFF⟩) }) ∧
  (∀ (p : Port) (s : State), s.receivers.get p = .discarding →
    exec (.frameEndInDiscarding p) s = .next { s with receivers := s.receivers.set p .idle }) ∧
  (∀ (p : Port) (s : State) (f : Reception), s.receivers.get p = .receiving f → f.count = 508 →
    exec (.oversize p) s = .next { s with
      receivers := s.receivers.set p .discarding
      store := { s.store with
        free := s.store.free ++ f.blocks
        share := s.store.share.set p (s.store.share.get p - f.blocks.length) }
      counters := (s.count (.port p .rxLengthError) 1).counters }) ∧
  ∀ (p : Port) (s : State) (f : Reception) (pick : BlockId) (bytes : List Byte),
    s.receivers.get p = .receiving f → f.count % 64 = 0 → f.count < 508 → bytes ≠ [] →
    let n := min bytes.length (min 64 (508 - f.count))
    (s.store.free ≠ [] → s.store.share.get p < 64 →
      ∃ b ∈ s.store.free, ∃ cells : List Host.Cell, (pick ∈ s.store.free → b = pick) ∧
        exec (.blockClaim p pick bytes) s = .next { s with
          receivers := s.receivers.set p
            (.receiving ⟨f.count + n, f.blocks ++ [b], (bytes.take n).foldl crcByte f.check⟩)
          store := { s.store with
            free := s.store.free.erase b
            share := s.store.share.set p (s.store.share.get p + 1)
            bytes := cells } } ∧
        (Memory.wf s.store.bytes = true → f.count = 64 * f.blocks.length →
          (∀ i, i < n → readCells cells (64 * b.val + i) = bytes.getD i 0) ∧
          ∀ a, a < 64 * b.val ∨ 64 * b.val + n ≤ a → readCells cells a = readCells s.store.bytes a)) ∧
    (s.store.free = [] ∨ 64 ≤ s.store.share.get p →
      exec (.blockClaim p pick bytes) s = .next { s with
        receivers := s.receivers.set p .discarding
        store := { s.store with
          free := s.store.free ++ f.blocks
          share := s.store.share.set p (s.store.share.get p - f.blocks.length) }
        counters := (s.count (.port p .rxNoBuffer) 1).counters
        events := s.events.append s.time .frameDiscard (portCode p) 1
          (((s.counter (.port p .rxNoBuffer)).add 1).value.setWidth 32) })

/-- FRAME_END: R9, R10, R11, R24.  The first check that a frame fails decides its counter; a valid frame goes to the
management agent, to the notice sender, to no one, or to its port's ready list. -/
def Obligations.FramesAreJudgedAtTheirEnd : Prop :=
  ∀ (p : Port) (s : State) (f : Reception) (aborted : Bool), s.receivers.get p = .receiving f →
    let d : Descriptor := ⟨p, f.count, f.blocks⟩
    let frame := s.frameBytes d
    let idle := s.receivers.set p .idle
    let returned := { s.store with
      free := s.store.free ++ f.blocks
      share := s.store.share.set p (s.store.share.get p - f.blocks.length) }
    let discarded := fun c => { s with
      receivers := idle, store := returned, counters := (s.count (.port p c) 1).counters }
    let sound : Prop := aborted = false ∧ 12 ≤ f.count ∧ (halfAt frame 6).toNat + 12 = f.count
    let valid : Prop := sound ∧ wordAtLe frame (f.count - 4) = crc (frame.take (f.count - 4))
    (¬ sound → exec (.frameEnd p aborted) s = .next (discarded .rxLengthError)) ∧
    (sound → ¬ valid → exec (.frameEnd p aborted) s = .next (discarded .rxCheckError)) ∧
    (valid → s.frameByte d 0 = s.agent.ownAddress → s.frameByte d 2 = 0xF0 →
      exec (.frameEnd p aborted) s = .next { s with
        receivers := idle
        agent := { s.agent with inbox := s.agent.inbox.set p (s.agent.inbox.get p ++ [d]) }
        counters := (s.count (.port p .rxGood) 1).counters }) ∧
    (valid → s.frameByte d 0 = s.agent.ownAddress → s.frameByte d 2 = 0xF3 →
      exec (.frameEnd p aborted) s = .next { s with
        receivers := idle
        notice := { s.notice with inbox := s.notice.inbox.set p (s.notice.inbox.get p ++ [d]) } }) ∧
    (valid → s.frameByte d 0 = s.agent.ownAddress → s.frameByte d 2 ≠ 0xF0 → s.frameByte d 2 ≠ 0xF3 →
      exec (.frameEnd p aborted) s = .next (discarded .rxToSelfOther)) ∧
    (valid → s.frameByte d 0 ≠ s.agent.ownAddress → (s.store.ready.get p).length < 16 →
      exec (.frameEnd p aborted) s = .next { s with
        receivers := idle
        store := { s.store with ready := s.store.ready.set p (s.store.ready.get p ++ [d]) }
        counters := (s.count (.port p .rxGood) 1).counters }) ∧
    (valid → s.frameByte d 0 ≠ s.agent.ownAddress → 16 ≤ (s.store.ready.get p).length →
      exec (.frameEnd p aborted) s = .next { discarded .rxNoBuffer with
        events := s.events.append s.time .frameDiscard (portCode p) 2
          (((s.counter (.port p .rxNoBuffer)).add 1).value.setWidth 32) })

/-! ## Screening (chapters 4, 5 and 7) -/

/-- FRAME_TAKE: R54, R55, R65, R127.  No frame is taken outside IDLE, with no descriptor waiting, while a switch is
pending, or while one is posted that comes before the take; that one take may come before a request that found the
engine IDLE with a descriptor waiting is DEDUCED (notes/assumptions/27.md).  The head of the only list that holds a
descriptor is taken, or of the list of the port not last served when both hold one; that a take from IDLE may find both,
each list having been empty, is the model's choice (notes/assumptions/28.md).  The walk begins under the active bank.
Where there is no entry to evaluate, under the empty program or from an entry point at or beyond the length, the walk
completes at once, as WALK_COMPLETION would complete it; every other walk is one WALK_COMPLETION
(notes/assumptions/15.md). -/
def Obligations.FramesAreTakenInTurn : Prop :=
  (∀ s : State,
    s.engine.phase ≠ .idle ∨ s.engine.switchPending = true ∨
      (s.engine.switchPosted = true ∧ s.engine.takeMayPrecede = false) ∨
      (s.store.ready.a = [] ∧ s.store.ready.b = []) →
    exec .frameTake s = .next s) ∧
  ∀ (p : Port) (s : State) (d : Descriptor) (rest : List Descriptor),
    s.engine.phase = .idle → s.engine.switchPending = false →
    (s.engine.switchPosted = false ∨ s.engine.takeMayPrecede = true) → s.store.ready.get p = d :: rest →
    (s.store.ready.get (opposite p) = [] ∨ s.engine.lastServed ≠ p) →
    let h := (s.bank s.engine.activeBank).header
    let entry := match p with
      | .a => h.entryA.val
      | .b => h.entryB.val
    let walking := { s with
      store := { s.store with ready := s.store.ready.set p rest }
      engine := { s.engine with
        lastServed := p
        takeMayPrecede := false
        phase := .walking d
          { bank := s.engine.activeBank, header := h, entry := entry, cursor := 8, steps := 0
            slots := Vector.replicate 4 none } } }
    (entry < h.length.val → exec .frameTake s = .next walking) ∧
    (h.length.val ≤ entry → exec .frameTake s = exec .walkCompletion walking)

/-- WALK_COMPLETION: R37, R60, R61, R62, R63, R65.  A verdict, or a fault under the bank's fault disposition, is written
into the descriptor, counted and, for a fault, reported; a switch that is pending is then made, as a SWITCH_REQUEST makes
one in HOLDING.  That a switch posted and not yet taken is made there too is DEDUCED (notes/assumptions/27.md), and so is
the fault's record standing before COMMIT_DONE (notes/assumptions/14.md). -/
def Obligations.WalksCompleteIntoHolding : Prop :=
  ∀ (s : State) (d : Descriptor) (w : Walk), s.engine.phase = .walking d w →
    let ended := walkEnd s.store.bytes d (s.bank w.bank) w
    let answer := fun t : State =>
      (s.engine.switchPosted = false → s.engine.switchPending = false → exec .walkCompletion s = .next t) ∧
      (s.engine.switchPosted = true ∨ s.engine.switchPending = true →
        exec .walkCompletion s = exec .switchRequest { t with engine := { t.engine with switchPosted := true } })
    (∀ v c slots n, ended = .verdict v c slots n →
      answer { s with
        engine := { s.engine with phase := .holding ⟨d, v, c, slots⟩ none n }
        counters := (s.count (.cls c .screened) 1).counters }) ∧
    ∀ k i n, ended = .fault k i n →
      answer { s with
        engine := { s.engine with
          phase := .holding
            ⟨d, if w.header.faultDisposition = .forwardUnclassified then .accept else .drop, 0,
              Vector.replicate 4 none⟩ (some k) n }
        counters := ((s.count (.cls 0 .screened) 1).count (.screen k) 1).counters
        events := s.events.append s.time .screenFault (portCode d.ingress)
          (match k with
           | .stepBudget => 1
           | .windowRange => 2
           | .cursorRange => 3
           | .targetRange => 4)
          (BitVec.ofNat 32 i) }

/-- SWITCH_REQUEST: R65, R66, R127, R128, R129, R130.  In WALKING the switch waits; in IDLE and HOLDING it is made at once:
the banks exchange roles, and the commit ends (KEEP) or its copy begins (COPY).  The posted switch and
whether a take may precede it are items of the model's (notes/assumptions/10.md, notes/assumptions/27.md). -/
def Obligations.SwitchesAreMadeBetweenWalks : Prop :=
  ∀ s : State, s.engine.switchPosted = true →
    let old := s.engine.activeBank
    let taken := { s.engine with switchPosted := false, takeMayPrecede := false }
    let switched := { taken with switchPending := false, activeBank := old.other }
    (∀ d w, s.engine.phase = .walking d w →
      exec .switchRequest s = .next { s with
        engine := { taken with switchPending := true } }) ∧
    ((∀ d w, s.engine.phase ≠ .walking d w) → s.tables.state = .switchPending .keep →
      exec .switchRequest s = .next { s with
        engine := switched
        tables := { s.tables with
          state := .idle, verify := .passed, reports := s.tables.reports ++ [.committed old.other] }
        events := s.events.append s.time .commitDone old.code 1 (old.other.code.setWidth 32) }) ∧
    ((∀ d w, s.engine.phase ≠ .walking d w) → s.tables.state = .switchPending .copy →
      exec .switchRequest s = .next { s with
        engine := switched
        tables := { s.tables with state := .copying, verify := .unverified } })

/-- MONITOR_TAKE_FRAME: R19, R22, R24, R64, R74, R86, R111..R115.  Every ON monitor of the frame's class takes the frame in
ascending number, each by a transition with its event and its report, and no other monitor and nothing else of the part
changes; then the frame's fate is decided under the effective disposition they leave, and the engine is
IDLE.  A frame offered to the forward queue of the opposite port joins it, unless that port is DOWN or the queue full. -/
def Obligations.FramesAreDecidedAfterTheirMonitors : Prop :=
  (∀ (s : State) (d : Screened) (k : Option FaultKind) (n : Nat), s.engine.phase = .holding d k n →
    let u := s.monitorsTake d
    let answer := fun t : State =>
      exec .monitorTakeFrame s = .next { t with engine := { s.engine with phase := .idle } }
    let disposition := (u.classState d.cls).effective
    let marked := fun (t : State) (bits : Byte) =>
      { t with store := { t.store with bytes := recomputeCheck d.desc (setFrameFlags d.desc bits t.store.bytes) } }
    let rewritten := u.rewrites d.cls
    u = (List.finRange 48).foldl (fun t m =>
      if (t.monitor m).run.state ≠ .off ∧ (t.monitor m).config.cls = d.cls then
        t.makeTransition m (takeFrame (t.monitor m) d.slots)
      else t) s ∧
    u = { s with
      monitors := u.monitors, classes := u.classes, events := u.events, store := { s.store with purges := u.store.purges } } ∧
    (∀ m, (u.monitor m).config = (s.monitor m).config ∧
      ((s.monitor m).run.state = .off ∨ (s.monitor m).config.cls ≠ d.cls → u.monitor m = s.monitor m) ∧
      ((s.monitor m).run.state ≠ .off → (s.monitor m).config.cls = d.cls →
        (u.monitor m).run = (takeFrame (s.monitor m) d.slots).run)) ∧
    (d.verdict = .drop → answer ((u.release d.desc).count (.cls d.cls .programDropped) 1)) ∧
    (d.verdict = .accept → disposition = .block → answer ((u.release d.desc).count (.cls d.cls .blocked) 1)) ∧
    (d.verdict = .accept → disposition = .pass → answer (u.offer d)) ∧
    (d.verdict = .accept → disposition = .mark →
      answer (((marked u 0x80).count (.cls d.cls .marked) 1).offer d)) ∧
    (d.verdict = .accept → disposition = .substitute → (∃ x ∈ rewritten, d.slots[x.1] = none) →
      answer ((u.release d.desc).count (.cls d.cls .blocked) 1)) ∧
    (d.verdict = .accept → disposition = .substitute → (∀ x ∈ rewritten, d.slots[x.1] ≠ none) →
      answer ((((marked { u with store := { u.store with bytes := rewriteSlots d rewritten u.store.bytes } } 0xC0).count
        (.cls d.cls .marked) 1).count (.cls d.cls .substituted) 1).offer d))) ∧
  ∀ (s : State) (d : Screened),
    let q := opposite d.desc.ingress
    let queue := s.store.forward.get q
    let returned := { s.store with
      free := s.store.free ++ d.desc.blocks
      share := s.store.share.set d.desc.ingress (s.store.share.get d.desc.ingress - d.desc.blocks.length) }
    s.release d.desc = { s with store := returned } ∧
    ((s.link.get q).recorded = .down →
      s.offer d = { s with store := returned, counters := (s.count (.port q .txFlushed) 1).counters }) ∧
    ((s.link.get q).recorded = .up → 24 ≤ queue.length →
      s.offer d = { s with
        store := returned
        counters := (s.count (.port q .txQueueFull) 1).counters
        events := s.events.append s.time .frameDiscard (portCode q) 3
          (((s.counter (.port q .txQueueFull)).add 1).value.setWidth 32) }) ∧
    ((s.link.get q).recorded = .up → queue.length < 24 →
      s.offer d = { s with
        store := { s.store with forward := s.store.forward.set q (queue ++ [d]) }
        counters := (s.count (.cls d.cls .forwarded) 1).counters })

/-! ## Egress (chapters 1 and 2) -/

/-- PURGE: R28, R29, R151.  The descriptors of the class leave both forward queues, the others keep their order, the
blocks come back, and one increment of blocked counts them.  The list of requests not yet taken is how the model holds
them (notes/assumptions/10.md). -/
def Obligations.PurgesEmptyBothQueues : Prop :=
  ∀ (c : ClassId) (s : State), c ∈ s.store.purges →
    let gone := ((s.store.forward.a ++ s.store.forward.b).filter fun d => decide (d.cls = c)).map (·.desc)
    ∃ (forward : PerPort (List Screened)) (share : PerPort Nat),
      (∀ p, forward.get p = (s.store.forward.get p).filter fun d => decide (d.cls ≠ c)) ∧
      (∀ p, share.get p = s.store.share.get p - blocksFrom p gone) ∧
      exec (.purge c) s = .next { s with
        store := { s.store with
          forward := forward
          free := s.store.free ++ gone.flatMap (·.blocks)
          share := share
          purges := s.store.purges.erase c }
        counters := (s.count (.cls c .blocked) gone.length).counters }

/-- EGRESS_GRANT: R25, R26, R27.  A response that waits, oldest first, precedes the notice, which precedes the forward
head; but the fourth grant in a row that a waiting forward head would lose goes to the forward head.  A port that is DOWN, or
whose transmitter is not IDLE, is granted nothing. -/
def Obligations.PortsGrantByPrecedence : Prop :=
  (∀ (p : Port) (s : State), (s.link.get p).recorded = .down ∨ s.transmitters.get p ≠ .idle →
    exec (.egressGrant p) s = .next s) ∧
  ∀ (p : Port) (s : State), s.transmitters.get p = .idle → (s.link.get p).recorded = .up →
    let queue := s.store.forward.get p
    let run := s.runCount.get p
    let waits : HeldResponse → Prop := fun r => r.port = p ∧ r.inTransmission = false
    let noResponse : Prop := ∀ r ∈ s.agent.responses, ¬ waits r
    let noticeWaits : NoticeFrame → Prop := fun f =>
      s.notice.frame = some f ∧ f.port = p ∧ f.inTransmission = false
    let precedes : Prop := queue = [] ∨ run < 3
    let counted := s.runCount.set p (if queue = [] then 0 else run + 1)
    (∀ earlier r later, s.agent.responses = earlier ++ r :: later → waits r → (∀ x ∈ earlier, ¬ waits x) → precedes →
      exec (.egressGrant p) s = .next { s with
        agent := { s.agent with responses := earlier ++ { r with inTransmission := true } :: later }
        runCount := counted
        transmitters := s.transmitters.set p (.sending (.response r.frame)) }) ∧
    (∀ f, noResponse → noticeWaits f → precedes →
      exec (.egressGrant p) s = .next { s with
        notice := { s.notice with frame := some { f with inTransmission := true } }
        runCount := counted
        transmitters := s.transmitters.set p (.sending (.notice f.frame)) }) ∧
    (∀ d rest, queue = d :: rest → 3 ≤ run ∨ (noResponse ∧ ∀ f, ¬ noticeWaits f) →
      exec (.egressGrant p) s = .next { s with
        store := { s.store with forward := s.store.forward.set p rest }
        runCount := s.runCount.set p 0
        transmitters := s.transmitters.set p (.sending (.forwarded d)) }) ∧
    (queue = [] → noResponse → (∀ f, ¬ noticeWaits f) → exec (.egressGrant p) s = .next s)

/-- END_OF_TRANSMISSION: R13, R14, R19, R152.  The transmitter is IDLE, the whole frame stands on the line, and the end
reaches the frame's owner: the slot of the response is freed, the notice sender no longer holds its frame, or the
forwarded frame's blocks come back.  The record of the line is the model's own (notes/assumptions/18.md). -/
def Obligations.TransmissionsEnd : Prop :=
  ∀ (p : Port) (s : State),
    let sent := s.count (.port p .txFrames) 1
    let line := fun bytes => s.lineOut.set p (.sent bytes)
    (∀ f, s.transmitters.get p = .sending (.response f) →
      exec (.endOfTransmission p) s = .next { s with
        transmitters := s.transmitters.set p .idle
        lineOut := line f.bytes
        agent := { s.agent with
          responses := s.agent.responses.eraseP fun r => decide (r.port = p) && r.inTransmission }
        counters := sent.counters }) ∧
    (∀ f, s.transmitters.get p = .sending (.notice f) →
      exec (.endOfTransmission p) s = .next { s with
        transmitters := s.transmitters.set p .idle
        lineOut := line f.bytes
        notice := { s.notice with
          frame := s.notice.frame.filter fun x => !(decide (x.port = p) && x.inTransmission) }
        counters := (sent.count (.notice .framesSent) 1).counters }) ∧
    ∀ d, s.transmitters.get p = .sending (.forwarded d) →
      exec (.endOfTransmission p) s = .next { s with
        transmitters := s.transmitters.set p .idle
        lineOut := line (s.frameBytes d.desc)
        store := { s.store with
          free := s.store.free ++ d.desc.blocks
          share := s.store.share.set d.desc.ingress (s.store.share.get d.desc.ingress - d.desc.blocks.length) }
        counters := sent.counters }

/-! ## Time (chapters 5, 6 and 10) -/

/-- TICK and the five timer expiries of a monitor: R72, R78, R80, R82, R83, R85, R95, R96, R100, R156, R157.  A timer at
0 is one whose expiry has fallen and waits to be taken (notes/assumptions/9.md). -/
def Obligations.TimersRunAndExpire : Prop :=
  (∀ s : State, ∃ t, exec .tick s = .next t ∧
    t = { s with
          time := s.time + 1
          monitors := t.monitors
          notice := { s.notice with timer := s.notice.timer.map fun n => n - 1 } } ∧
    ∀ m, let r := (s.monitor m).run
      (t.monitor m).config = (s.monitor m).config ∧
      (t.monitor m).run = { r with
        delay := r.delay.map fun n => n - 1
        recovery := r.recovery.map fun n => n - 1
        silence := r.silence.map fun n => n - 1
        decay := r.decay.map fun n => n - 1
        expiry := r.expiry.map fun n => n - 1 }) ∧
  ∀ (s : State) (m : MonitorId),
    let c := (s.monitor m).config
    let r := (s.monitor m).run
    let quietly := fun r' => { s with monitors := s.monitors.set m.val ⟨c, r'⟩ m.isLt }
    (r.delay = some 0 → r.state = .alert →
      exec (.delayTimerExpiry m) s = .next (s.makeTransition m (trip c r 2))) ∧
    (r.recovery = some 0 → r.state = .recovering →
      exec (.recoveryTimerExpiry m) s = .next (s.makeTransition m
        ⟨{ r with
            state := .normal
            recovery := none
            decay := if 0 < r.latchCounter then some (c.decayInterval.toNat * 100) else r.decay },
          some (.monitorClear, 2, r.lastSample.getD 0), some false⟩)) ∧
    (r.silence = some 0 → r.state = .normal → c.tripDelay = 0 →
      exec (.silenceTimerExpiry m) s = .next (s.makeTransition m (trip c { r with silence := none } 1))) ∧
    (r.silence = some 0 → r.state = .normal → c.tripDelay ≠ 0 →
      exec (.silenceTimerExpiry m) s = .next (s.makeTransition m
        ⟨{ r with state := .alert, silence := none, delay := some c.tripDelay.toNat },
          if c.reportAlerts then some (.monitorAlert, 2, 0) else none, none⟩)) ∧
    (r.silence = some 0 → r.state = .recovering →
      exec (.silenceTimerExpiry m) s =
        .next (quietly { r with state := .tripped, silence := none, recovery := none })) ∧
    (r.decay = some 0 → r.state = .normal ∨ r.state = .alert →
      exec (.decayTimerExpiry m) s = .next (quietly { r with
        latchCounter := r.latchCounter - 1
        decay := if 1 < r.latchCounter then some (c.decayInterval.toNat * 100) else none })) ∧
    (r.expiry = some 0 → r.state = .latched →
      exec (.latchExpiryTimerExpiry m) s = .next (s.makeTransition m
        ⟨{ r with
            state := .normal
            latchCounter := 0
            expiry := none
            silence := if c.kind = .stale then some c.threshold.toNat else r.silence },
          some (.monitorRelease, 2, r.lastSample.getD 0), some false⟩))

/-! ## Notices (chapter 9) -/

/-- NOTICE_FORMING and RETRANSMIT_TIMER_EXPIRY: R140, R141, R142, R146, R176.  A frame carries up to four records, due
ones before unsent ones, with at most eight outstanding after it; an expiry makes every outstanding record due again,
until the sixth stalls the sender.  A timer at 0 is one whose expiry has fallen and waits to be taken, and counts as running
at NOTICE_FORMING: the model's choice (notes/assumptions/9.md). -/
def Obligations.NoticesAreFormedAndRepeated : Prop :=
  (∀ (s : State) (dst : Destination),
    s.notice.state = .active → s.notice.frame = none → s.notice.destination = some dst →
    let due := match s.notice.resend with
      | none => []
      | some n => s.events.outstanding.dropWhile fun (q : Queued) => decide (q.record.seq ≠ n)
    let k := min (min (4 - (due.take 4).length) (8 - s.events.outstanding.length)) s.events.unsent.length
    let carried := due.take 4 ++ s.events.unsent.take k
    (carried = [] → exec .noticeForming s = .next s) ∧
    ∀ first rest, carried = first :: rest →
      exec .noticeForming s = .next { s with
        events := { s.events with
          outstanding := s.events.outstanding ++ (s.events.unsent.take k).map fun q => { q with carried := true }
          unsent := s.events.unsent.drop k }
        notice := { s.notice with
          frame := some
            ⟨⟨dst.address, s.agent.ownAddress, 0xF2, first.record.seq, carried.flatMap fun q => eventBytes q.record⟩,
              dst.port, false⟩
          resend := (due.drop 4).head?.map fun (q : Queued) => q.record.seq
          timer := if s.notice.timer = none then some (s.notice.timeout * 10) else s.notice.timer }
        counters :=
          if carried.any fun q => q.carried then (s.count (.notice .retransmissions) 1).counters else s.counters }) ∧
  ∀ s : State, s.notice.timer = some 0 →
    (s.notice.retries < 5 →
      exec .retransmitTimerExpiry s = .next { s with
        notice := { s.notice with
          frame := s.notice.frame.filter fun f => f.inTransmission
          resend := s.events.outstanding.head?.map fun (q : Queued) => q.record.seq
          retries := s.notice.retries + 1
          timer := some (s.notice.timeout * 10) } }) ∧
    (5 ≤ s.notice.retries →
      exec .retransmitTimerExpiry s = .next { s with
        notice := { s.notice with retries := s.notice.retries + 1, timer := none, state := .stalled } })

/-- NOTICE_ACK: R138, R141, R144, R145.  A frame from the destination that names an outstanding record removes it and the
older ones; one that does not is counted; a frame from elsewhere is not read.  That frames handed
over wait in the order of their arrival is the model's (notes/assumptions/8.md). -/
def Obligations.AcknowledgementsClearRecords : Prop :=
  ∀ (p : Port) (s : State) (d : Descriptor) (rest : List Descriptor), s.notice.inbox.get p = d :: rest →
    let inbox := s.notice.inbox.set p rest
    let returned := { s.store with
      free := s.store.free ++ d.blocks
      share := s.store.share.set d.ingress (s.store.share.get d.ingress - d.blocks.length) }
    let fromDestination : Prop := s.notice.destination = some ⟨s.frameByte d 1, d.ingress⟩
    let n : Half := s.frameByte d 8 ++ s.frameByte d 9
    let good := s.count (.port d.ingress .rxGood) 1
    let q := s.events
    (¬ fromDestination →
      exec (.noticeAck p) s = .next { s with
        store := returned
        notice := { s.notice with inbox := inbox }
        counters := (s.count (.port d.ingress .rxToSelfOther) 1).counters }) ∧
    (fromDestination → d.total < 14 ∨ (∀ x ∈ q.outstanding, x.record.seq ≠ n) →
      exec (.noticeAck p) s = .next { s with
        store := returned
        notice := { s.notice with inbox := inbox }
        counters := (good.count (.notice .acksIgnored) 1).counters }) ∧
    ∀ older x newer, fromDestination → 14 ≤ d.total → q.outstanding = older ++ x :: newer → x.record.seq = n →
      (∀ y ∈ older, y.record.seq ≠ n) →
      exec (.noticeAck p) s = .next { s with
        store := returned
        counters := good.counters
        events :=
          if q.lost = 0 then { q with outstanding := newer }
          else
            { outstanding := newer
              unsent := q.unsent ++ [⟨⟨q.nextSeq, s.time, .eventsLost, 0, 1, 0, BitVec.ofNat 32 q.lost⟩, false⟩]
              nextSeq := q.nextSeq + 1
              lost := 0 }
        notice := { s.notice with
          inbox := inbox
          retries := 0
          timer := if newer = [] then none else some (s.notice.timeout * 10)
          state := if s.notice.state = .stalled then .active else s.notice.state
          resend := s.notice.resend.bind fun k =>
            if newer.any fun y => decide (y.record.seq = k) then some k
            else newer.head?.map fun (y : Queued) => y.record.seq } }

/-! ## Requests (chapter 11) -/

/-- MGMT_REQUEST_ARRIVAL: R159, R160, R161, R162.  The checks in their order, and the queue at last.  That frames handed
over wait in the order of their arrival is the model's (notes/assumptions/8.md). -/
def Obligations.RequestsAreAdmitted : Prop :=
  ∀ (p : Port) (s : State) (d : Descriptor) (rest : List Descriptor), s.agent.inbox.get p = d :: rest →
    let bytes := s.frameBytes d
    let r : Request :=
      ⟨d.ingress, byteAt bytes 1, halfAt bytes 4, halfAt bytes 8, byteAt bytes 10, (bytes.take (d.total - 4)).drop 11, d⟩
    let a := s.agent
    let agent := { a with inbox := a.inbox.set p rest }
    let dropped := fun c => { s with
      agent := agent
      store := { s.store with
        free := s.store.free ++ d.blocks
        share := s.store.share.set d.ingress (s.store.share.get d.ingress - d.blocks.length) }
      counters := (s.count (.mgmt c) 1).counters }
    let answer := fun t : State => exec (.mgmtRequestArrival p) s = .next t
    let reaches : Prop := a.portSet.get d.ingress = true ∧ 15 ≤ d.total
    let permitted : Prop := reaches ∧ (a.sources = [] ∨ r.source ∈ a.sources ∨ r.command = 0x01)
    let cached := a.cache.find? fun e =>
      decide (e.port = d.ingress) && decide (e.source = r.source) && decide (e.tag = r.tag)
    let inFlight : Prop :=
      (∃ q ∈ a.requests, q.port = d.ingress ∧ q.source = r.source ∧ q.tag = r.tag) ∨
      ∃ q ∈ a.pendingResults, q.port = d.ingress ∧ q.source = r.source ∧ q.tag = r.tag
    (a.portSet.get d.ingress = false → answer (dropped .portRefused)) ∧
    (a.portSet.get d.ingress = true → d.total < 15 → answer (dropped .malformed)) ∧
    (reaches → ¬ permitted → a.slotsInUse < 4 →
      answer ((dropped .notPermitted).respond d.ingress r.source r.seq r.tag r.command .notPermitted [])) ∧
    (reaches → ¬ permitted → 4 ≤ a.slotsInUse → answer (dropped .notPermitted)) ∧
    (∀ e, permitted → cached = some e → a.slotsInUse < 4 → (s.link.get d.ingress).recorded = .up →
      answer { dropped .duplicate with
        agent := { agent with responses := a.responses ++ [⟨d.ingress, e.response, false⟩] } }) ∧
    (∀ e, permitted → cached = some e → 4 ≤ a.slotsInUse ∨ (s.link.get d.ingress).recorded = .down →
      answer (dropped .duplicate)) ∧
    (permitted → cached = none → inFlight → answer (dropped .duplicate)) ∧
    (permitted → cached = none → ¬ inFlight → 4 ≤ a.requests.length → answer (dropped .queueDiscard)) ∧
    (permitted → cached = none → ¬ inFlight → a.requests.length < 4 →
      answer { s with agent := { agent with requests := a.requests ++ [r] } })

/-- R160, R163, R164, R165, R167, R175: only the head request executes, as the command its code names, with a response
slot free; arguments of another length than its command's are refused BAD_ARGUMENT; a refusal changes nothing but the
queue and its answer; and what answering, reserving a slot and ending an execution do.  That a command of another code than
the head's, or with no request or slot, leaves the part as it is, is the model's choice (notes/assumptions/25.md); that a
refused RESTART counts as executed is DEDUCED (notes/assumptions/16.md). -/
def Obligations.OnlyTheHeadRequestExecutes : Prop :=
  let coded : List (Instr × Byte × Option Nat) :=
    [(.identify, 0x01, some 0), (.setAddress, 0x02, some 1), (.setAccess, 0x03, none), (.readHeader, 0x10, some 1),
     (.writeHeader, 0x11, some 6), (.readEntries, 0x12, some 3), (.writeEntries, 0x13, none), (.verify, 0x14, some 0),
     (.commit, 0x15, some 1), (.readMonitor, 0x20, some 1), (.writeMonitor, 0x21, some 27),
     (.startMonitor, 0x22, some 1), (.stopMonitor, 0x23, some 1), (.releaseMonitor, 0x24, some 1),
     (.setOverride, 0x28, some 2), (.readStatus, 0x30, some 0), (.readCounters, 0x31, some 2),
     (.setNotice, 0x38, some 4), (.resumeNotice, 0x39, some 0), (.restart, 0x3F, some 0)]
  (∀ (s : State) (c : Instr) (code : Byte) (length : Option Nat), (c, code, length) ∈ coded →
    (s.agent.requests = [] ∨ 4 ≤ s.agent.slotsInUse → exec c s = .next s) ∧
    ∀ r, s.agent.requests.head? = some r →
      (r.command ≠ code → exec c s = .next s) ∧
      (∀ n, r.command = code → s.agent.slotsInUse < 4 → length = some n → r.args.length ≠ n →
        exec c s = .next (s.dequeue.answered r .badArgument []))) ∧
  (∀ (s : State) (r : Request), s.agent.requests.head? = some r → s.agent.slotsInUse < 4 →
    ((∃ x ∈ coded, x.2.1 = r.command) → exec .badCommand s = .next s) ∧
    ((∀ x ∈ coded, x.2.1 ≠ r.command) → exec .badCommand s = .next (s.dequeue.answered r .badCommand []))) ∧
  (∀ (s : State) (c : Instr), c ∈ requestCommands → exec c s = .next s ∨ ∃ r t, s.agent.requests.head? = some r ∧
    (exec c s = .next ((t.reserve r).endExecution r) ∨
      ∃ u results, exec c s = .next (t.answered r u results) ∧ (u ≠ .done → t = s.dequeue ∧ results = []))) ∧
  ∀ (s : State) (r : Request) (u : Status) (results : List Byte),
    let f : Originated :=
      ⟨r.source, s.agent.ownAddress, 0xF1, r.seq, be16 r.tag ++ [r.command, statusCode u] ++ results⟩
    let others := s.agent.cache.filter fun e => !(decide (e.port = r.port) && decide (e.source = r.source) &&
      decide (e.tag = r.tag))
    let answered := s.respond r.port r.source r.seq r.tag r.command u results
    answered = { s with
      agent := { s.agent with
        cache := others.drop (others.length - 3) ++ [⟨r.port, r.source, r.tag, f⟩]
        responses := if (s.link.get r.port).recorded = .up then s.agent.responses ++ [⟨r.port, f, false⟩]
          else s.agent.responses } } ∧
    s.answered r u results = answered.endExecution r ∧
    s.reserve r = { s with
      agent := { s.agent with
        pendingResults := s.agent.pendingResults ++ [⟨r.port, r.source, r.seq, r.tag, r.command, true⟩] } } ∧
    s.endExecution r = { s with
      store := { s.store with
        free := s.store.free ++ r.frame.blocks
        share := s.store.share.set r.frame.ingress (s.store.share.get r.frame.ingress - r.frame.blocks.length) }
      counters := (s.count (.mgmt .executed) 1).counters }

/-- IDENTIFY, SET_ADDRESS, SET_ACCESS: R163, R164, R169, R170, R171.  The answer to SET_ADDRESS is sent from the new
address. -/
def Obligations.TheAgentObeys : Prop :=
  ∀ (s : State) (r : Request),
    let refused := fun c u => exec c s = .next (s.dequeue.answered r u [])
    let a := s.dequeue.agent
    (s.Executes r 0x01 → r.args = [] →
      exec .identify s = .next (s.dequeue.answered r .done
        [0x0D, 0x1F, 0x24, 0x10, 0x01, 96, 64, 64, 16, 24, 2, 0x01, 0x00, 64, 32, 48, 4, 32, 8, 4, 4, 4])) ∧
    (∀ v, s.Executes r 0x02 → r.args = [v] →
      (v = 0 ∨ v = 255 → refused .setAddress .badArgument) ∧
      (v ≠ 0 → v ≠ 255 → exec .setAddress s =
        .next ({ s.dequeue with agent := { a with ownAddress := v } }.answered r .done []))) ∧
    (s.Executes r 0x03 → r.args.length < 2 → refused .setAccess .badArgument) ∧
    ∀ ports n sources, s.Executes r 0x03 → r.args = ports :: n :: sources →
      let legal : Prop := sources.length = n.toNat ∧ ports.toNat < 4 ∧ n.toNat ≤ 4 ∧ 255 ∉ sources ∧ sources.Nodup
      let here : Prop := match r.port with
        | .a => ports.getLsbD 0 = true
        | .b => ports.getLsbD 1 = true
      let reachable : Prop := here ∧ (sources = [] ∨ r.source ∈ sources)
      (¬ legal → refused .setAccess .badArgument) ∧
      (legal → ¬ reachable → refused .setAccess .lockout) ∧
      (legal → reachable → exec .setAccess s =
        .next ({ s.dequeue with
          agent := { a with portSet := ⟨ports.getLsbD 0, ports.getLsbD 1⟩, sources := sources } }.answered r .done []))

/-- READ_HEADER, WRITE_HEADER, READ_ENTRIES, WRITE_ENTRIES, VERIFY, COMMIT: R34, R35, R119, R120, R121, R122, R123, R124,
R126.  The posted switch is an item of the model's (notes/assumptions/10.md); that a take may precede it where it finds the
engine IDLE with a descriptor waiting is DEDUCED from R65 (notes/assumptions/27.md). -/
def Obligations.TheTableServiceObeys : Prop :=
  ∀ (s : State) (r : Request),
    let refused := fun c u => exec c s = .next (s.dequeue.answered r u [])
    let active := s.engine.activeBank
    let read : Byte → BankId → Prop := fun x k =>
      (x = 0 ∧ k = active) ∨ (x = 1 ∧ k = active.other ∧ s.tables.state ≠ .copying)
    let written := fun (c : Instr) (b : Bank) => ∃ t : State,
      exec c s = .next (t.answered r .done []) ∧
      t = { s.dequeue with tables := { s.tables with banks := t.tables.banks, verify := .unverified } } ∧
      t.bank active = s.bank active ∧ t.bank active.other = b
    (∀ x, s.Executes r 0x10 → r.args = [x] →
      (∀ k, read x k →
        exec .readHeader s = .next (s.dequeue.answered r .done (k.code :: headerBytes (s.bank k).header))) ∧
      (x = 1 → s.tables.state = .copying → refused .readHeader .busy) ∧
      (1 < x.toNat → refused .readHeader .badArgument)) ∧
    (s.Executes r 0x11 → r.args.length = 6 →
      (s.tables.state ≠ .idle → refused .writeHeader .busy) ∧
      (s.tables.state = .idle → headerOf r.args = none → refused .writeHeader .badArgument) ∧
      ∀ h, s.tables.state = .idle → headerOf r.args = some h →
        written .writeHeader { s.bank active.other with header := h }) ∧
    (∀ x first n, s.Executes r 0x12 → r.args = [x, first, n] →
      let legal : Prop := 1 ≤ n.toNat ∧ n.toNat ≤ 16 ∧ first.toNat + n.toNat ≤ 256
      (∀ k, legal → read x k →
        exec .readEntries s = .next (s.dequeue.answered r .done ([k.code, first, n] ++
          (List.range n.toNat).flatMap fun i =>
            entryBytes ((s.bank k).entries[first.toNat + i]?.getD .powerOn)))) ∧
      (legal → x = 1 → s.tables.state = .copying → refused .readEntries .busy) ∧
      (¬ legal ∨ 1 < x.toNat → refused .readEntries .badArgument)) ∧
    (s.Executes r 0x13 → r.args.length < 2 → refused .writeEntries .badArgument) ∧
    (∀ first n body, s.Executes r 0x13 → r.args = first :: n :: body →
      let legal : Prop :=
        body.length = 16 * n.toNat ∧ 1 ≤ n.toNat ∧ n.toNat ≤ 16 ∧ first.toNat + n.toNat ≤ 256
      let entry := fun i => entryOf ((body.drop (16 * i)).take 16)
      (¬ legal → refused .writeEntries .badArgument) ∧
      (legal → s.tables.state ≠ .idle → refused .writeEntries .busy) ∧
      (legal → s.tables.state = .idle → (∃ i, i < n.toNat ∧ entry i = none) →
        refused .writeEntries .badArgument) ∧
      (legal → s.tables.state = .idle → (∀ i, i < n.toNat → entry i ≠ none) →
        ∃ b : Bank, written .writeEntries b ∧ b.header = (s.bank active.other).header ∧
          ∀ j : Fin 256, some b.entries[j] =
            if first.toNat ≤ j.val ∧ j.val < first.toNat + n.toNat then entry (j.val - first.toNat)
            else some (s.bank active.other).entries[j])) ∧
    (s.Executes r 0x14 → r.args = [] →
      (s.tables.state ≠ .idle → refused .verify .busy) ∧
      (s.tables.state = .idle → exec .verify s = .next (({ s.dequeue with
        tables := { s.tables with state := .verifying, verify := .unverified } }.reserve r).endExecution r))) ∧
    ∀ x, s.Executes r 0x15 → r.args = [x] →
      (x ≠ 1 → x ≠ 2 → refused .commit .badArgument) ∧
      (x = 1 ∨ x = 2 → s.tables.state ≠ .idle → refused .commit .busy) ∧
      (x = 1 ∨ x = 2 → s.tables.state = .idle → s.tables.verify ≠ .passed → refused .commit .notVerified) ∧
      (x = 1 ∨ x = 2 → s.tables.state = .idle → s.tables.verify = .passed →
        exec .commit s = .next (({ s.dequeue with
          tables := { s.tables with state := .switchPending (if x = 1 then .keep else .copy) }
          engine := { s.engine with
            switchPosted := true
            takeMayPrecede :=
              decide (s.engine.phase = Phase.idle ∧ (s.store.ready.a ≠ [] ∨ s.store.ready.b ≠ [])) } }.reserve
                r).endExecution r))

/-- VERIFY_EXAMINATION_COMPLETE, COPY_COMPLETE, RESULT_REPORT: R125, R129, R130, R163, R164, R165, R166.  An examination
or a copy ends, and its result answers the request that waits for it: the oldest report the oldest pending result
(DEDUCED, notes/assumptions/12.md). -/
def Obligations.ResultsFollowLater : Prop :=
  (∀ s : State, s.tables.state = .verifying →
    let v := examine (s.bank s.engine.activeBank.other)
    exec .verifyExaminationComplete s = .next { s with
      tables := { s.tables with state := .idle, verify := v, reports := s.tables.reports ++ [.verified v] } }) ∧
  (∀ s : State, s.tables.state = .copying →
    let active := s.engine.activeBank
    ∃ t : State, exec .copyComplete s = .next t ∧
      t = { s with
            tables := { s.tables with
              banks := t.tables.banks
              state := .idle
              verify := .passed
              reports := s.tables.reports ++ [.committed active] }
            events := s.events.append s.time .commitDone active.other.code 2 (active.code.setWidth 32) } ∧
      t.bank active = s.bank active ∧ t.bank active.other = s.bank active) ∧
  ∀ (s : State) (x : Report) (reports : List Report) (q : PendingResult) (rest : List PendingResult),
    s.tables.reports = x :: reports → s.agent.pendingResults = q :: rest →
    let results := match x with
      | .verified .unverified => [0, 0, 0, 0]
      | .verified .passed => [1, 0, 0, 0]
      | .verified (.failed index reason) => [2] ++ be16 (BitVec.ofNat 16 index) ++
          [match reason with
           | .targetRange => 1
           | .entryRange => 2
           | .windowRange => 3]
      | .committed active => [active.code]
    let f : Originated := ⟨q.source, s.agent.ownAddress, 0xF1, q.seq, be16 q.tag ++ [q.command, 0] ++ results⟩
    let others := s.agent.cache.filter fun e => !(decide (e.port = q.port) && decide (e.source = q.source) &&
      decide (e.tag = q.tag))
    exec .resultReport s = .next { s with
      tables := { s.tables with reports := reports }
      agent := { s.agent with
        pendingResults := rest
        cache := others.drop (others.length - 3) ++ [⟨q.port, q.source, q.tag, f⟩]
        responses := if q.slotReserved = true ∧ (s.link.get q.port).recorded = .up then
            s.agent.responses ++ [⟨q.port, f, false⟩]
          else s.agent.responses } }

/-- READ_MONITOR, WRITE_MONITOR, START_MONITOR, STOP_MONITOR, RELEASE_MONITOR, SET_OVERRIDE: R88, R89, R90, R91, R92,
R101, R107, R108, R109, R110.  That a timer at 0 is one whose expiry waits to be taken, and that READ_MONITOR reports it as
0, stopped, is the model's choice (notes/assumptions/9.md); the list of purge requests is too (notes/assumptions/10.md). -/
def Obligations.MonitorsAndClassesObey : Prop :=
  ∀ (s : State) (r : Request),
    let refused := fun c u => exec c s = .next (s.dequeue.answered r u [])
    let done := fun c (t : State) => exec c s = .next (t.answered r .done [])
    let put := fun (m : MonitorId) (x : Monitor) => { s.dequeue with monitors := s.monitors.set m.val x m.isLt }
    let named : List (Instr × Byte) :=
      [(.readMonitor, 0x20), (.startMonitor, 0x22), (.stopMonitor, 0x23), (.releaseMonitor, 0x24)]
    (∀ c code x, (c, code) ∈ named → s.Executes r code → r.args = [x] → 48 ≤ x.toNat → refused c .badArgument) ∧
    (∀ m : MonitorId,
      let x := s.monitor m
      let c := x.config
      let k := x.run
      let number : Byte := BitVec.ofNat 8 m.val
      let off : MonitorRuntime := ⟨.off, 0, none, none, none, none, none, none⟩
      (s.Executes r 0x20 → r.args = [number] →
        exec .readMonitor s = .next (s.dequeue.answered r .done
          (number :: configBytes c ++ [monitorStateCode k.state, byteOf k.latchCounter] ++
            (match k.lastSample with
             | none => [0, 0, 0, 0, 0]
             | some v => 1 :: be32 v) ++
            [k.delay, k.recovery, k.silence, k.decay, k.expiry].flatMap fun t => be32 (BitVec.ofNat 32 (t.getD 0))))) ∧
      (∀ record, s.Executes r 0x21 → r.args = number :: record → record.length = 26 →
        (k.state ≠ .off → refused .writeMonitor .monitorActive) ∧
        (k.state = .off → configOf record = none → refused .writeMonitor .badArgument) ∧
        ∀ c', k.state = .off → configOf record = some c' → done .writeMonitor (put m ⟨c', k⟩)) ∧
      (s.Executes r 0x22 → r.args = [number] →
        (k.state ≠ .off → refused .startMonitor .monitorActive) ∧
        (k.state = .off → done .startMonitor (put m ⟨c, { off with
          state := .normal
          silence := if c.kind = .stale then some c.threshold.toNat else none }⟩))) ∧
      (s.Executes r 0x23 → r.args = [number] →
        (k.state = .off → done .stopMonitor s.dequeue) ∧
        (k.state = .normal ∨ k.state = .alert → done .stopMonitor (put m ⟨c, off⟩)) ∧
        (k.state = .tripped ∨ k.state = .recovering ∨ k.state = .latched →
          done .stopMonitor (s.dequeue.makeTransition m ⟨off, none, some false⟩))) ∧
      (s.Executes r 0x24 → r.args = [number] →
        (k.state ≠ .latched → refused .releaseMonitor .notLatched) ∧
        (k.state = .latched → done .releaseMonitor (s.dequeue.makeTransition m
          ⟨{ k with
              state := .normal
              latchCounter := 0
              expiry := none
              silence := if c.kind = .stale then some c.threshold.toNat else k.silence },
            some (.monitorRelease, 1, k.lastSample.getD 0), some false⟩)))) ∧
    (∀ x record, s.Executes r 0x21 → r.args = x :: record → record.length = 26 → 48 ≤ x.toNat →
      refused .writeMonitor .badArgument) ∧
    ∀ x y, s.Executes r 0x28 → r.args = [x, y] →
      (32 ≤ x.toNat ∨ 2 < y.toNat → refused .setOverride .badArgument) ∧
      ∀ (c : ClassId) (o : Override), x.toNat = c.val →
        y = (match o with
          | .auto => 0
          | .forcePass => 1
          | .forceBlock => 2) →
        let k := s.classState c
        let new := effectiveOf o k.engaged
        exec .setOverride s = .next ({ s.dequeue with
          classes := s.classes.set c.val ⟨o, k.engaged, new⟩ c.isLt
          events := if new = k.effective then s.events
            else s.events.append s.time .dispositionChange x (byteOf (dispositionCode new)) 256
          store := { s.store with
            purges := if new ≠ k.effective ∧ new = Disposition.block then s.store.purges ++ [c] else s.store.purges } }.answered r
              .done [byteOf (dispositionCode new)])

/-- READ_STATUS and READ_COUNTERS: R33, R151, R152, R153, R154, R172, section 12.2.  A status report changes nothing; a
read of a counter group clears that group, and no other counter, if it is asked to. -/
def Obligations.ReportsShowTheState : Prop :=
  ∀ (s : State) (r : Request),
    (s.Executes r 0x30 → r.args = [] → ∃ bs : List Byte,
      exec .readStatus s = .next (s.dequeue.answered r .done bs) ∧ bs.length = 97 ∧
      byteAt bs 0 = s.engine.activeBank.code ∧
      byteAt bs 1 = (match s.tables.state with
        | .idle => 0
        | .verifying => 1
        | .switchPending _ => 2
        | .copying => 3) ∧
      (match s.tables.verify with
        | .unverified => byteAt bs 2 = 0 ∧ halfAt bs 3 = 0 ∧ byteAt bs 5 = 0
        | .passed => byteAt bs 2 = 1 ∧ halfAt bs 3 = 0 ∧ byteAt bs 5 = 0
        | .failed i k => byteAt bs 2 = 2 ∧ halfAt bs 3 = BitVec.ofNat 16 i ∧ byteAt bs 5 = failReasonCode k) ∧
      (∀ m : MonitorId, byteAt bs (6 + m.val) = monitorStateCode (s.monitor m).run.state) ∧
      (∀ c : ClassId, byteAt bs (54 + c.val) =
        byteOf (16 * overrideCode (s.classState c).override + dispositionCode (s.classState c).effective)) ∧
      byteAt bs 86 = noticeStateCode s.notice.state ∧
      byteAt bs 87 = byteOf s.events.outstanding.length ∧
      byteAt bs 88 = byteOf (s.events.outstanding.length + s.events.unsent.length) ∧
      halfAt bs 89 = BitVec.ofNat 16 s.events.lost ∧
      (byteAt bs 91).toNat = (if s.link.a.recorded = .up then 1 else 0) + (if s.link.b.recorded = .up then 2 else 0) ∧
      byteAt bs 92 = byteOf s.store.free.length ∧
      byteAt bs 93 = byteOf s.store.ready.a.length ∧ byteAt bs 94 = byteOf s.store.ready.b.length ∧
      byteAt bs 95 = byteOf s.store.forward.a.length ∧ byteAt bs 96 = byteOf s.store.forward.b.length) ∧
    ∀ x y, s.Executes r 0x31 → r.args = [x, y] →
      (36 < x.toNat ∨ 1 < y.toNat →
        exec .readCounters s = .next (s.dequeue.answered r .badArgument [])) ∧
      ∀ g : Group,
        x.toNat = (match g with
          | .port .a => 0
          | .port .b => 1
          | .cls k => 2 + k.val
          | .screen => 34
          | .mgmt => 35
          | .notice => 36) → y.toNat ≤ 1 →
        let ids : List CounterId := match g with
          | .port p => [.port p .rxGood, .port p .rxCheckError, .port p .rxLengthError, .port p .rxNoBuffer,
              .port p .rxToSelfOther, .port p .txFrames, .port p .txQueueFull, .port p .txFlushed]
          | .cls k => [.cls k .screened, .cls k .forwarded, .cls k .programDropped, .cls k .blocked, .cls k .marked,
              .cls k .substituted]
          | .screen => [.screen .stepBudget, .screen .windowRange, .screen .cursorRange, .screen .targetRange]
          | .mgmt => [.mgmt .executed, .mgmt .notPermitted, .mgmt .portRefused, .mgmt .malformed,
              .mgmt .queueDiscard, .mgmt .duplicate]
          | .notice => [.notice .framesSent, .notice .retransmissions, .notice .acksIgnored]
        ∃ t : State,
          exec .readCounters s = .next (t.answered r .done ([x, byteOf ids.length] ++ ids.flatMap fun id =>
            be32 (BitVec.ofNat 32
              ((if (s.counter id).overflow then 2147483648 else 0) + (s.counter id).value.toNat)))) ∧
          t = { s.dequeue with counters := t.counters } ∧
          ∀ id, t.counter id = if y = 1 ∧ groupOfCounter id = g then ⟨0, false⟩ else s.counter id

/-- SET_NOTICE and RESUME_NOTICE: R140, R141, R147, R148. -/
def Obligations.TheNoticeSenderObeys : Prop :=
  ∀ (s : State) (r : Request),
    let refused := exec .setNotice s = .next (s.dequeue.answered r .badArgument [])
    let all := s.events.outstanding.head?.map fun (q : Queued) => q.record.seq
    let notWaiting := s.notice.frame.filter fun f => f.inTransmission
    (∀ x address port timeout, s.Executes r 0x38 → r.args = [x, address, port, timeout] →
      (timeout = 0 ∨ 1 < x.toNat ∨ (x = 1 ∧ (1 < port.toNat ∨ address = 255)) → refused) ∧
      (timeout ≠ 0 → x = 0 →
        exec .setNotice s = .next ({ s.dequeue with
          events := { s.events with outstanding := [], unsent := s.events.outstanding ++ s.events.unsent }
          notice := { s.notice with
            state := .off
            destination := none
            timeout := timeout.toNat
            timer := none
            retries := 0
            resend := none
            frame := notWaiting } }.answered r .done [])) ∧
      ∀ p, timeout ≠ 0 → x = 1 → port = portCode p → address ≠ 255 →
        exec .setNotice s = .next ({ s.dequeue with
          notice := { s.notice with
            state := .active
            destination := some ⟨address, p⟩
            timeout := timeout.toNat
            timer := none
            retries := 0
            resend := all
            frame := notWaiting } }.answered r .done [])) ∧
    (s.Executes r 0x39 → r.args = [] →
      (s.notice.state = .off → exec .resumeNotice s = .next (s.dequeue.answered r .done [])) ∧
      (s.notice.state ≠ .off →
        exec .resumeNotice s = .next ({ s.dequeue with
          notice := { s.notice with
            state := .active
            timer := none
            retries := 0
            resend := if s.events.outstanding = [] then s.notice.resend else all
            frame := if s.events.outstanding = [] then s.notice.frame else notWaiting } }.answered r .done [])))

/-- RESTART: R4, R6, R13, R17, R18, R26, R32, R53, R68, R92, R105, R131, R135, R139, R140, R151, R156, R159, R173.  It is
answered, alone among the commands, after every block has taken it.  That a SENDING transmitter of a DOWN port enters DOWN,
and which changes to DOWN, purge requests, posted switch and reports not yet taken are dropped, is DEDUCED
(notes/assumptions/6.md); the emptied inboxes are the model's choice (notes/assumptions/8.md).  How many entries a copy that
it cuts had copied is a free value (notes/assumptions/3.md); the record of the line is the model's own
(notes/assumptions/18.md). -/
def Obligations.RestartKeepsWhatItShould : Prop :=
  ∀ (s : State) (r : Request), s.Executes r 0x3F → r.args = [] →
    ∃ t : State, exec .restart s = .next (t.respond r.port r.source r.seq r.tag 0x3F .done []) ∧
      t.pending = s.pending ∧
      (∀ p, (t.link.get p).recorded = (s.link.get p).recorded ∧ (t.link.get p).lastChange = 0 ∧
        (t.link.get p).down = ⟨(s.link.get p).down.receiver,
          (match s.transmitters.get p with
           | .sending _ => false
           | _ => (s.link.get p).down.transmitter), false, false, false⟩ ∧
        t.receivers.get p = (match s.receivers.get p with
          | .receiving _ => .discarding
          | x => x) ∧
        t.transmitters.get p = (match s.transmitters.get p, (s.link.get p).recorded with
          | .sending _, .up => .idle
          | .sending _, .down => .down
          | x, _ => x) ∧
        t.lineOut.get p = (match s.transmitters.get p with
          | .sending _ => .aborted
          | _ => s.lineOut.get p) ∧
        t.store.share.get p = 0 ∧ t.store.ready.get p = [] ∧ t.store.forward.get p = [] ∧ t.runCount.get p = 0) ∧
      t.store.free.Perm allBlocks ∧ t.store.bytes = s.store.bytes ∧ t.store.purges = [] ∧
      t.engine.phase = .idle ∧ t.engine.activeBank = s.engine.activeBank ∧ t.engine.lastServed = .b ∧
      t.engine.switchPending = false ∧ t.engine.switchPosted = false ∧ t.engine.takeMayPrecede = false ∧
      t.tables.state = .idle ∧ t.tables.reports = [] ∧
      t.tables.verify = (match s.tables.state with
        | .idle => s.tables.verify
        | .switchPending _ => .passed
        | _ => .unverified) ∧
      t.bank s.engine.activeBank = s.bank s.engine.activeBank ∧
      (t.bank s.engine.activeBank.other).header = (s.bank s.engine.activeBank.other).header ∧
      (s.tables.state ≠ .copying → t.tables.banks = s.tables.banks) ∧
      (∃ n, n ≤ 256 ∧ ∀ i : Fin 256, (t.bank s.engine.activeBank.other).entries[i] =
        if s.tables.state = .copying ∧ i.val < n then (s.bank s.engine.activeBank).entries[i]
        else (s.bank s.engine.activeBank.other).entries[i]) ∧
      (∀ m, (t.monitor m).config = (s.monitor m).config ∧
        ((s.monitor m).run.state = .off → (t.monitor m).run = (s.monitor m).run) ∧
        ((s.monitor m).run.state ≠ .off → (t.monitor m).run = ⟨.normal, 0, none, none, none,
          if (s.monitor m).config.kind = .stale then some (s.monitor m).config.threshold.toNat else none,
          none, none⟩)) ∧
      (∀ c, (t.classState c).override = (s.classState c).override ∧ (t.classState c).engaged = [] ∧
        (t.classState c).effective =
          match (s.classState c).override with
          | .forceBlock => .block
          | _ => .pass) ∧
      t.events.outstanding = [] ∧
      t.events.unsent.map (·.record) = [⟨0, 0, .restarted, portCode r.port, 1, 2, r.source.setWidth 32⟩] ∧
      t.events.nextSeq = 1 ∧ t.events.lost = 0 ∧
      t.notice = { s.notice with
        state := if s.notice.destination = none then .off else .active
        timer := none
        retries := 0
        resend := none
        frame := none
        inbox := ⟨[], []⟩ } ∧
      (∀ id, t.counter id = ⟨0, false⟩) ∧ t.time = 0 ∧
      t.agent = { s.agent with
        inbox := ⟨[], []⟩
        requests := []
        responses := []
        pendingResults := []
        cache := [] }

end
end

