-- ==== Sys2Proof/Laws/Memory.lean ====
section
/-! SUPPORT. The bytes of the frame store: a read after a write, and the canonical form under every memory
operation. -/

namespace Sys2Proof.Machine

/-! ## The canonical form -/

theorem cellsFrom_mono {low low' : Nat} (h : low' ≤ low) :
    ∀ {l : List Host.Cell}, cellsFrom low l = true → cellsFrom low' l = true
  | [], _ => rfl
  | (k, v) :: l, e => by
    simp only [cellsFrom, Bool.and_eq_true, decide_eq_true_eq] at e ⊢
    exact ⟨⟨⟨le_trans h e.1.1.1, e.1.1.2⟩, e.1.2⟩, e.2⟩

theorem readCells_below {low a : Nat} (h : a < low) :
    ∀ {l : List Host.Cell}, cellsFrom low l = true → readCells l a = blankByte
  | [], _ => rfl
  | (k, v) :: l, e => by
    simp only [cellsFrom, Bool.and_eq_true, decide_eq_true_eq] at e
    have hk : a < k := lt_of_lt_of_le h e.1.1.1
    simp [readCells, hk, Nat.ne_of_lt hk]

theorem cellsFrom_writeCells {a : Nat} {v : Byte} (ha : a < poolSize) :
    ∀ {low : Nat} {l : List Host.Cell}, low ≤ a → cellsFrom low l = true → cellsFrom low (writeCells l a v) = true
  | low, [], h, _ => by
    by_cases e : v = blankByte <;> simp [writeCells, cellsFrom, e, h, ha]
  | low, (k, w) :: l, h, e => by
    have e' := e
    simp only [cellsFrom, Bool.and_eq_true, decide_eq_true_eq] at e'
    obtain ⟨⟨⟨h1, h2⟩, h3⟩, h4⟩ := e'
    unfold writeCells
    split
    · rename_i hlt
      split
      · exact e
      · simp only [cellsFrom, Bool.and_eq_true, decide_eq_true_eq]
        exact ⟨⟨⟨h, ha⟩, ‹_›⟩, ⟨⟨hlt, h2⟩, h3⟩, h4⟩
    · split
      · rename_i hne heq
        split
        · exact cellsFrom_mono (by omega) h4
        · simp only [cellsFrom, Bool.and_eq_true, decide_eq_true_eq]
          exact ⟨⟨⟨h1, h2⟩, ‹_›⟩, h4⟩
      · simp only [cellsFrom, Bool.and_eq_true, decide_eq_true_eq]
        exact ⟨⟨⟨h1, h2⟩, h3⟩, cellsFrom_writeCells ha (by omega) h4⟩

/-! ## Reading after a write -/

theorem readCells_writeCells {a : Nat} {v : Byte} (x : Nat) :
    ∀ {low : Nat} {l : List Host.Cell}, cellsFrom low l = true →
      readCells (writeCells l a v) x = if x = a then v else readCells l x
  | low, [], _ => by
    by_cases e : v = blankByte
    · simp [writeCells, readCells, e]
    · by_cases hx : x = a <;> simp [writeCells, readCells, e, hx]
  | low, (k, w) :: l, e => by
    have e' := e
    simp only [cellsFrom, Bool.and_eq_true, decide_eq_true_eq] at e'
    obtain ⟨⟨⟨h1, h2⟩, h3⟩, h4⟩ := e'
    unfold writeCells
    split
    · rename_i hlt
      split
      · rename_i hv
        by_cases hx : x = a
        · subst hx; simp [readCells, hlt, Nat.ne_of_lt hlt, hv]
        · simp [hx]
      · by_cases hx : x = a
        · simp [readCells, hx]
        · by_cases hxa : x < a
          · have : x < k := lt_trans hxa hlt
            simp [readCells, hx, hxa, this, Nat.ne_of_lt this]
          · simp [readCells, hx, hxa]
    · split
      · rename_i hne heq
        subst heq
        split
        · rename_i hv
          by_cases hx : x = a
          · subst hx; simp [hv, readCells_below (Nat.lt_succ_self x) h4]
          · by_cases hxa : x < a
            · simp [readCells, hx, hxa, readCells_below (Nat.lt_succ_of_lt hxa) h4]
            · simp [readCells, hx, hxa]
        · by_cases hx : x = a <;> simp [readCells, hx]
      · rename_i hne1 hne2
        simp only [readCells]
        rw [readCells_writeCells x h4]
        by_cases hxk : x = k
        · subst hxk; simp [Ne.symm hne2]
        · by_cases hlt : x < k
          · have : x ≠ a := by omega
            simp [hxk, hlt, this]
          · simp [hxk, hlt]

/-- A read after a write: the value written at its address, the old value everywhere else. -/
theorem read_write {l : List Host.Cell} (h : Memory.wf l = true) (a x : Nat) (v : Byte) :
    readCells (writeCells l a v) x = if x = a then v else readCells l x := readCells_writeCells x h

/-! ## Bytes of a stored frame -/

/-- A frame's byte lies inside the pool. -/
theorem frameAddress_lt {d : Descriptor} {i a : Nat} (h : frameAddress d i = some a) : a < poolSize := by
  simp only [frameAddress, Option.map_eq_some_iff] at h
  obtain ⟨b, -, rfl⟩ := h
  have := b.isLt
  have := Nat.mod_lt i (show 0 < Config.blockSize by decide)
  simp only [poolSize, Config.blockSize] at *
  omega

theorem wf_writeFrameByte {l : List Host.Cell} (h : Memory.wf l = true) (d : Descriptor) (i : Nat) (v : Byte) :
    Memory.wf (writeFrameByte d i v l) = true := by
  unfold writeFrameByte
  split
  · exact cellsFrom_writeCells (frameAddress_lt ‹_›) (Nat.zero_le _) h
  · exact h

theorem wf_writeFrameBytes (d : Descriptor) :
    ∀ {l : List Host.Cell} (i : Nat) (vs : List Byte), Memory.wf l = true → Memory.wf (writeFrameBytes d i vs l) = true
  | _, _, [], h => h
  | _, i, v :: vs, h => wf_writeFrameBytes d (i + 1) vs (wf_writeFrameByte h d i v)

/-- Writing a frame's bytes leaves every address outside them as it was. -/
theorem read_writeFrameBytes_of_outside (d : Descriptor) (x : Nat) :
    ∀ {l : List Host.Cell} (i : Nat) (vs : List Byte), Memory.wf l = true →
      (∀ j, i ≤ j → j < i + vs.length → frameAddress d j ≠ some x) →
      readCells (writeFrameBytes d i vs l) x = readCells l x
  | _, _, [], _, _ => rfl
  | l, i, v :: vs, h, hx => by
    simp only [writeFrameBytes]
    rw [read_writeFrameBytes_of_outside d x (i + 1) vs (wf_writeFrameByte h d i v)
      (fun j h1 h2 => hx j (by omega) (by simp only [List.length_cons]; omega))]
    have h0 := hx i (le_refl i) (by simp)
    unfold writeFrameByte
    split
    · rename_i a ha
      rw [read_write h, if_neg]
      rintro rfl
      exact h0 ha
    · rfl

theorem wf_setFrameFlags {l : List Host.Cell} (h : Memory.wf l = true) (d : Descriptor) (bits : Byte) :
    Memory.wf (setFrameFlags d bits l) = true := wf_writeFrameByte h d _ _

theorem wf_recomputeCheck {l : List Host.Cell} (h : Memory.wf l = true) (d : Descriptor) :
    Memory.wf (recomputeCheck d l) = true := wf_writeFrameBytes d _ _ h

end Sys2Proof.Machine
end

