-- ==== Sys2Proof/Laws/State.lean ====
section
/-! SUPPORT. One lemma per field and named update of the state, each true by unfolding the update alone. -/

namespace Sys2Proof.Machine

/-! ## Pairs, one item per port -/

@[simp] theorem opposite_opposite (p : Port) : opposite (opposite p) = p := by cases p <;> rfl

theorem opposite_ne (p : Port) : opposite p ≠ p := by cases p <;> decide

theorem port_eq_or (p q : Port) : q = p ∨ q = opposite p := by cases p <;> cases q <;> simp [opposite]

@[simp] theorem PerPort.get_a {α : Type} (x : PerPort α) : x.get .a = x.a := rfl
@[simp] theorem PerPort.get_b {α : Type} (x : PerPort α) : x.get .b = x.b := rfl
@[simp] theorem PerPort.set_a_a {α : Type} (x : PerPort α) (v : α) : (x.set .a v).a = v := rfl
@[simp] theorem PerPort.set_a_b {α : Type} (x : PerPort α) (v : α) : (x.set .a v).b = x.b := rfl
@[simp] theorem PerPort.set_b_a {α : Type} (x : PerPort α) (v : α) : (x.set .b v).a = x.a := rfl
@[simp] theorem PerPort.set_b_b {α : Type} (x : PerPort α) (v : α) : (x.set .b v).b = v := rfl
@[simp] theorem PerPort.get_set_same {α : Type} (x : PerPort α) (p : Port) (v : α) : (x.set p v).get p = v := by
  cases p <;> rfl

theorem PerPort.get_set_of_ne {α : Type} (x : PerPort α) {p q : Port} (v : α) (h : q ≠ p) :
    (x.set p v).get q = x.get q := by cases p <;> cases q <;> first | rfl | exact absurd rfl h

@[simp] theorem PerPort.get_both {α : Type} (v : α) (p : Port) : (PerPort.both v).get p = v := by cases p <;> rfl

@[simp] theorem PerPort.set_get {α : Type} (x : PerPort α) (p : Port) : x.set p (x.get p) = x := by cases p <;> rfl

@[simp] theorem PerPort.set_set {α : Type} (x : PerPort α) (p : Port) (v w : α) : (x.set p v).set p w = x.set p w := by
  cases p <;> rfl

theorem PerPort.ext_get {α : Type} {x y : PerPort α} (h : ∀ p, x.get p = y.get p) : x = y := by
  cases x; cases y; simpa using And.intro (h .a) (h .b)

/-! ## Reading a monitor or a class after an update -/

@[simp] theorem State.monitor_setMonitor_same (s : State) (m : MonitorId) (v : Monitor) :
    (s.setMonitor m v).monitor m = v := by simp [State.monitor, State.setMonitor]

theorem State.monitor_setMonitor_of_ne (s : State) {m n : MonitorId} (v : Monitor) (h : n ≠ m) :
    (s.setMonitor m v).monitor n = s.monitor n := by
  simp only [State.monitor, State.setMonitor, Fin.getElem_fin]
  exact Vector.getElem_set_ne _ _ fun e => h (Fin.ext e.symm)

@[simp] theorem State.classState_setClass_same (s : State) (c : ClassId) (v : ClassState) :
    (s.setClass c v).classState c = v := by simp [State.classState, State.setClass]

theorem State.classState_setClass_of_ne (s : State) {c k : ClassId} (v : ClassState) (h : k ≠ c) :
    (s.setClass c v).classState k = s.classState k := by
  simp only [State.classState, State.setClass, Fin.getElem_fin]
  exact Vector.getElem_set_ne _ _ fun e => h (Fin.ext e.symm)

/-! ## Banks -/

@[simp] theorem BankId.other_other (k : BankId) : k.other.other = k := by cases k <;> rfl

theorem BankId.other_ne (k : BankId) : k.other ≠ k := by cases k <;> decide

theorem State.shadow_ne_active (s : State) : s.shadow ≠ s.engine.activeBank := BankId.other_ne _

@[simp] theorem State.bank_setBank_same (s : State) (k : BankId) (b : Bank) : (s.setBank k b).bank k = b := by
  cases k <;> rfl

theorem State.bank_setBank_of_ne (s : State) {k j : BankId} (b : Bank) (h : j ≠ k) :
    (s.setBank k b).bank j = s.bank j := by cases k <;> cases j <;> first | rfl | exact absurd rfl h

/-- `setBank` touches the banks alone. -/
theorem State.setBank_eq (s : State) (k : BankId) (b : Bank) :
    s.setBank k b = { s with tables := { s.tables with banks := (s.setBank k b).tables.banks } } := by
  cases k <;> rfl

@[simp] theorem State.setBank_pending (s : State) (k : BankId) (b : Bank) : (s.setBank k b).pending = s.pending := by
  cases k <;> rfl
@[simp] theorem State.setBank_link (s : State) (k : BankId) (b : Bank) : (s.setBank k b).link = s.link := by
  cases k <;> rfl
@[simp] theorem State.setBank_receivers (s : State) (k : BankId) (b : Bank) : (s.setBank k b).receivers = s.receivers := by
  cases k <;> rfl
@[simp] theorem State.setBank_transmitters (s : State) (k : BankId) (b : Bank) : (s.setBank k b).transmitters = s.transmitters := by
  cases k <;> rfl
@[simp] theorem State.setBank_lineOut (s : State) (k : BankId) (b : Bank) : (s.setBank k b).lineOut = s.lineOut := by
  cases k <;> rfl
@[simp] theorem State.setBank_store (s : State) (k : BankId) (b : Bank) : (s.setBank k b).store = s.store := by
  cases k <;> rfl
@[simp] theorem State.setBank_runCount (s : State) (k : BankId) (b : Bank) : (s.setBank k b).runCount = s.runCount := by
  cases k <;> rfl
@[simp] theorem State.setBank_engine (s : State) (k : BankId) (b : Bank) : (s.setBank k b).engine = s.engine := by
  cases k <;> rfl
@[simp] theorem State.setBank_tables_state (s : State) (k : BankId) (b : Bank) :
    (s.setBank k b).tables.state = s.tables.state := by cases k <;> rfl
@[simp] theorem State.setBank_tables_verify (s : State) (k : BankId) (b : Bank) :
    (s.setBank k b).tables.verify = s.tables.verify := by cases k <;> rfl
@[simp] theorem State.setBank_tables_reports (s : State) (k : BankId) (b : Bank) :
    (s.setBank k b).tables.reports = s.tables.reports := by cases k <;> rfl
@[simp] theorem State.setBank_monitors (s : State) (k : BankId) (b : Bank) : (s.setBank k b).monitors = s.monitors := by
  cases k <;> rfl
@[simp] theorem State.setBank_classes (s : State) (k : BankId) (b : Bank) : (s.setBank k b).classes = s.classes := by
  cases k <;> rfl
@[simp] theorem State.setBank_events (s : State) (k : BankId) (b : Bank) : (s.setBank k b).events = s.events := by
  cases k <;> rfl
@[simp] theorem State.setBank_notice (s : State) (k : BankId) (b : Bank) : (s.setBank k b).notice = s.notice := by
  cases k <;> rfl
@[simp] theorem State.setBank_counters (s : State) (k : BankId) (b : Bank) : (s.setBank k b).counters = s.counters := by
  cases k <;> rfl
@[simp] theorem State.setBank_time (s : State) (k : BankId) (b : Bank) : (s.setBank k b).time = s.time := by
  cases k <;> rfl
@[simp] theorem State.setBank_agent (s : State) (k : BankId) (b : Bank) : (s.setBank k b).agent = s.agent := by
  cases k <;> rfl
@[simp] theorem State.setBank_freeUses (s : State) (k : BankId) (b : Bank) : (s.setBank k b).freeUses = s.freeUses := by
  cases k <;> rfl

/-! ## Receivers, transmitters, link states, run counts -/

@[simp] theorem State.setReceiver_pending (s : State) (p : Port) (r : Receiver) :
    (s.setReceiver p r).pending = s.pending := rfl
@[simp] theorem State.setReceiver_link (s : State) (p : Port) (r : Receiver) :
    (s.setReceiver p r).link = s.link := rfl
@[simp] theorem State.setReceiver_receivers (s : State) (p : Port) (r : Receiver) :
    (s.setReceiver p r).receivers = s.receivers.set p r := rfl
@[simp] theorem State.setReceiver_transmitters (s : State) (p : Port) (r : Receiver) :
    (s.setReceiver p r).transmitters = s.transmitters := rfl
@[simp] theorem State.setReceiver_lineOut (s : State) (p : Port) (r : Receiver) :
    (s.setReceiver p r).lineOut = s.lineOut := rfl
@[simp] theorem State.setReceiver_store (s : State) (p : Port) (r : Receiver) :
    (s.setReceiver p r).store = s.store := rfl
@[simp] theorem State.setReceiver_runCount (s : State) (p : Port) (r : Receiver) :
    (s.setReceiver p r).runCount = s.runCount := rfl
@[simp] theorem State.setReceiver_engine (s : State) (p : Port) (r : Receiver) :
    (s.setReceiver p r).engine = s.engine := rfl
@[simp] theorem State.setReceiver_tables (s : State) (p : Port) (r : Receiver) :
    (s.setReceiver p r).tables = s.tables := rfl
@[simp] theorem State.setReceiver_monitors (s : State) (p : Port) (r : Receiver) :
    (s.setReceiver p r).monitors = s.monitors := rfl
@[simp] theorem State.setReceiver_classes (s : State) (p : Port) (r : Receiver) :
    (s.setReceiver p r).classes = s.classes := rfl
@[simp] theorem State.setReceiver_events (s : State) (p : Port) (r : Receiver) :
    (s.setReceiver p r).events = s.events := rfl
@[simp] theorem State.setReceiver_notice (s : State) (p : Port) (r : Receiver) :
    (s.setReceiver p r).notice = s.notice := rfl
@[simp] theorem State.setReceiver_counters (s : State) (p : Port) (r : Receiver) :
    (s.setReceiver p r).counters = s.counters := rfl
@[simp] theorem State.setReceiver_time (s : State) (p : Port) (r : Receiver) :
    (s.setReceiver p r).time = s.time := rfl
@[simp] theorem State.setReceiver_agent (s : State) (p : Port) (r : Receiver) :
    (s.setReceiver p r).agent = s.agent := rfl
@[simp] theorem State.setReceiver_freeUses (s : State) (p : Port) (r : Receiver) :
    (s.setReceiver p r).freeUses = s.freeUses := rfl

@[simp] theorem State.setTransmitter_pending (s : State) (p : Port) (t : Transmitter) :
    (s.setTransmitter p t).pending = s.pending := rfl
@[simp] theorem State.setTransmitter_link (s : State) (p : Port) (t : Transmitter) :
    (s.setTransmitter p t).link = s.link := rfl
@[simp] theorem State.setTransmitter_receivers (s : State) (p : Port) (t : Transmitter) :
    (s.setTransmitter p t).receivers = s.receivers := rfl
@[simp] theorem State.setTransmitter_transmitters (s : State) (p : Port) (t : Transmitter) :
    (s.setTransmitter p t).transmitters = s.transmitters.set p t := rfl
@[simp] theorem State.setTransmitter_lineOut (s : State) (p : Port) (t : Transmitter) :
    (s.setTransmitter p t).lineOut = s.lineOut := rfl
@[simp] theorem State.setTransmitter_store (s : State) (p : Port) (t : Transmitter) :
    (s.setTransmitter p t).store = s.store := rfl
@[simp] theorem State.setTransmitter_runCount (s : State) (p : Port) (t : Transmitter) :
    (s.setTransmitter p t).runCount = s.runCount := rfl
@[simp] theorem State.setTransmitter_engine (s : State) (p : Port) (t : Transmitter) :
    (s.setTransmitter p t).engine = s.engine := rfl
@[simp] theorem State.setTransmitter_tables (s : State) (p : Port) (t : Transmitter) :
    (s.setTransmitter p t).tables = s.tables := rfl
@[simp] theorem State.setTransmitter_monitors (s : State) (p : Port) (t : Transmitter) :
    (s.setTransmitter p t).monitors = s.monitors := rfl
@[simp] theorem State.setTransmitter_classes (s : State) (p : Port) (t : Transmitter) :
    (s.setTransmitter p t).classes = s.classes := rfl
@[simp] theorem State.setTransmitter_events (s : State) (p : Port) (t : Transmitter) :
    (s.setTransmitter p t).events = s.events := rfl
@[simp] theorem State.setTransmitter_notice (s : State) (p : Port) (t : Transmitter) :
    (s.setTransmitter p t).notice = s.notice := rfl
@[simp] theorem State.setTransmitter_counters (s : State) (p : Port) (t : Transmitter) :
    (s.setTransmitter p t).counters = s.counters := rfl
@[simp] theorem State.setTransmitter_time (s : State) (p : Port) (t : Transmitter) :
    (s.setTransmitter p t).time = s.time := rfl
@[simp] theorem State.setTransmitter_agent (s : State) (p : Port) (t : Transmitter) :
    (s.setTransmitter p t).agent = s.agent := rfl
@[simp] theorem State.setTransmitter_freeUses (s : State) (p : Port) (t : Transmitter) :
    (s.setTransmitter p t).freeUses = s.freeUses := rfl

@[simp] theorem State.setLink_pending (s : State) (p : Port) (l : LinkState) :
    (s.setLink p l).pending = s.pending := rfl
@[simp] theorem State.setLink_link (s : State) (p : Port) (l : LinkState) :
    (s.setLink p l).link = s.link.set p l := rfl
@[simp] theorem State.setLink_receivers (s : State) (p : Port) (l : LinkState) :
    (s.setLink p l).receivers = s.receivers := rfl
@[simp] theorem State.setLink_transmitters (s : State) (p : Port) (l : LinkState) :
    (s.setLink p l).transmitters = s.transmitters := rfl
@[simp] theorem State.setLink_lineOut (s : State) (p : Port) (l : LinkState) :
    (s.setLink p l).lineOut = s.lineOut := rfl
@[simp] theorem State.setLink_store (s : State) (p : Port) (l : LinkState) : (s.setLink p l).store = s.store := rfl
@[simp] theorem State.setLink_runCount (s : State) (p : Port) (l : LinkState) :
    (s.setLink p l).runCount = s.runCount := rfl
@[simp] theorem State.setLink_engine (s : State) (p : Port) (l : LinkState) : (s.setLink p l).engine = s.engine := rfl
@[simp] theorem State.setLink_tables (s : State) (p : Port) (l : LinkState) : (s.setLink p l).tables = s.tables := rfl
@[simp] theorem State.setLink_monitors (s : State) (p : Port) (l : LinkState) :
    (s.setLink p l).monitors = s.monitors := rfl
@[simp] theorem State.setLink_classes (s : State) (p : Port) (l : LinkState) :
    (s.setLink p l).classes = s.classes := rfl
@[simp] theorem State.setLink_events (s : State) (p : Port) (l : LinkState) : (s.setLink p l).events = s.events := rfl
@[simp] theorem State.setLink_notice (s : State) (p : Port) (l : LinkState) : (s.setLink p l).notice = s.notice := rfl
@[simp] theorem State.setLink_counters (s : State) (p : Port) (l : LinkState) :
    (s.setLink p l).counters = s.counters := rfl
@[simp] theorem State.setLink_time (s : State) (p : Port) (l : LinkState) : (s.setLink p l).time = s.time := rfl
@[simp] theorem State.setLink_agent (s : State) (p : Port) (l : LinkState) : (s.setLink p l).agent = s.agent := rfl
@[simp] theorem State.setLink_freeUses (s : State) (p : Port) (l : LinkState) :
    (s.setLink p l).freeUses = s.freeUses := rfl

@[simp] theorem State.setRunCount_pending (s : State) (p : Port) (n : Nat) :
    (s.setRunCount p n).pending = s.pending := rfl
@[simp] theorem State.setRunCount_link (s : State) (p : Port) (n : Nat) : (s.setRunCount p n).link = s.link := rfl
@[simp] theorem State.setRunCount_receivers (s : State) (p : Port) (n : Nat) :
    (s.setRunCount p n).receivers = s.receivers := rfl
@[simp] theorem State.setRunCount_transmitters (s : State) (p : Port) (n : Nat) :
    (s.setRunCount p n).transmitters = s.transmitters := rfl
@[simp] theorem State.setRunCount_lineOut (s : State) (p : Port) (n : Nat) :
    (s.setRunCount p n).lineOut = s.lineOut := rfl
@[simp] theorem State.setRunCount_store (s : State) (p : Port) (n : Nat) : (s.setRunCount p n).store = s.store := rfl
@[simp] theorem State.setRunCount_runCount (s : State) (p : Port) (n : Nat) :
    (s.setRunCount p n).runCount = s.runCount.set p n := rfl
@[simp] theorem State.setRunCount_engine (s : State) (p : Port) (n : Nat) :
    (s.setRunCount p n).engine = s.engine := rfl
@[simp] theorem State.setRunCount_tables (s : State) (p : Port) (n : Nat) :
    (s.setRunCount p n).tables = s.tables := rfl
@[simp] theorem State.setRunCount_monitors (s : State) (p : Port) (n : Nat) :
    (s.setRunCount p n).monitors = s.monitors := rfl
@[simp] theorem State.setRunCount_classes (s : State) (p : Port) (n : Nat) :
    (s.setRunCount p n).classes = s.classes := rfl
@[simp] theorem State.setRunCount_events (s : State) (p : Port) (n : Nat) :
    (s.setRunCount p n).events = s.events := rfl
@[simp] theorem State.setRunCount_notice (s : State) (p : Port) (n : Nat) :
    (s.setRunCount p n).notice = s.notice := rfl
@[simp] theorem State.setRunCount_counters (s : State) (p : Port) (n : Nat) :
    (s.setRunCount p n).counters = s.counters := rfl
@[simp] theorem State.setRunCount_time (s : State) (p : Port) (n : Nat) : (s.setRunCount p n).time = s.time := rfl
@[simp] theorem State.setRunCount_agent (s : State) (p : Port) (n : Nat) : (s.setRunCount p n).agent = s.agent := rfl
@[simp] theorem State.setRunCount_freeUses (s : State) (p : Port) (n : Nat) :
    (s.setRunCount p n).freeUses = s.freeUses := rfl

/-! ## Monitors and classes -/

@[simp] theorem State.setMonitor_pending (s : State) (m : MonitorId) (v : Monitor) :
    (s.setMonitor m v).pending = s.pending := rfl
@[simp] theorem State.setMonitor_link (s : State) (m : MonitorId) (v : Monitor) :
    (s.setMonitor m v).link = s.link := rfl
@[simp] theorem State.setMonitor_receivers (s : State) (m : MonitorId) (v : Monitor) :
    (s.setMonitor m v).receivers = s.receivers := rfl
@[simp] theorem State.setMonitor_transmitters (s : State) (m : MonitorId) (v : Monitor) :
    (s.setMonitor m v).transmitters = s.transmitters := rfl
@[simp] theorem State.setMonitor_lineOut (s : State) (m : MonitorId) (v : Monitor) :
    (s.setMonitor m v).lineOut = s.lineOut := rfl
@[simp] theorem State.setMonitor_store (s : State) (m : MonitorId) (v : Monitor) :
    (s.setMonitor m v).store = s.store := rfl
@[simp] theorem State.setMonitor_runCount (s : State) (m : MonitorId) (v : Monitor) :
    (s.setMonitor m v).runCount = s.runCount := rfl
@[simp] theorem State.setMonitor_engine (s : State) (m : MonitorId) (v : Monitor) :
    (s.setMonitor m v).engine = s.engine := rfl
@[simp] theorem State.setMonitor_tables (s : State) (m : MonitorId) (v : Monitor) :
    (s.setMonitor m v).tables = s.tables := rfl
@[simp] theorem State.setMonitor_monitors (s : State) (m : MonitorId) (v : Monitor) :
    (s.setMonitor m v).monitors = s.monitors.set m.val v m.isLt := rfl
@[simp] theorem State.setMonitor_classes (s : State) (m : MonitorId) (v : Monitor) :
    (s.setMonitor m v).classes = s.classes := rfl
@[simp] theorem State.setMonitor_events (s : State) (m : MonitorId) (v : Monitor) :
    (s.setMonitor m v).events = s.events := rfl
@[simp] theorem State.setMonitor_notice (s : State) (m : MonitorId) (v : Monitor) :
    (s.setMonitor m v).notice = s.notice := rfl
@[simp] theorem State.setMonitor_counters (s : State) (m : MonitorId) (v : Monitor) :
    (s.setMonitor m v).counters = s.counters := rfl
@[simp] theorem State.setMonitor_time (s : State) (m : MonitorId) (v : Monitor) :
    (s.setMonitor m v).time = s.time := rfl
@[simp] theorem State.setMonitor_agent (s : State) (m : MonitorId) (v : Monitor) :
    (s.setMonitor m v).agent = s.agent := rfl
@[simp] theorem State.setMonitor_freeUses (s : State) (m : MonitorId) (v : Monitor) :
    (s.setMonitor m v).freeUses = s.freeUses := rfl

@[simp] theorem State.setClass_pending (s : State) (c : ClassId) (v : ClassState) :
    (s.setClass c v).pending = s.pending := rfl
@[simp] theorem State.setClass_link (s : State) (c : ClassId) (v : ClassState) : (s.setClass c v).link = s.link := rfl
@[simp] theorem State.setClass_receivers (s : State) (c : ClassId) (v : ClassState) :
    (s.setClass c v).receivers = s.receivers := rfl
@[simp] theorem State.setClass_transmitters (s : State) (c : ClassId) (v : ClassState) :
    (s.setClass c v).transmitters = s.transmitters := rfl
@[simp] theorem State.setClass_lineOut (s : State) (c : ClassId) (v : ClassState) :
    (s.setClass c v).lineOut = s.lineOut := rfl
@[simp] theorem State.setClass_store (s : State) (c : ClassId) (v : ClassState) :
    (s.setClass c v).store = s.store := rfl
@[simp] theorem State.setClass_runCount (s : State) (c : ClassId) (v : ClassState) :
    (s.setClass c v).runCount = s.runCount := rfl
@[simp] theorem State.setClass_engine (s : State) (c : ClassId) (v : ClassState) :
    (s.setClass c v).engine = s.engine := rfl
@[simp] theorem State.setClass_tables (s : State) (c : ClassId) (v : ClassState) :
    (s.setClass c v).tables = s.tables := rfl
@[simp] theorem State.setClass_monitors (s : State) (c : ClassId) (v : ClassState) :
    (s.setClass c v).monitors = s.monitors := rfl
@[simp] theorem State.setClass_classes (s : State) (c : ClassId) (v : ClassState) :
    (s.setClass c v).classes = s.classes.set c.val v c.isLt := rfl
@[simp] theorem State.setClass_events (s : State) (c : ClassId) (v : ClassState) :
    (s.setClass c v).events = s.events := rfl
@[simp] theorem State.setClass_notice (s : State) (c : ClassId) (v : ClassState) :
    (s.setClass c v).notice = s.notice := rfl
@[simp] theorem State.setClass_counters (s : State) (c : ClassId) (v : ClassState) :
    (s.setClass c v).counters = s.counters := rfl
@[simp] theorem State.setClass_time (s : State) (c : ClassId) (v : ClassState) : (s.setClass c v).time = s.time := rfl
@[simp] theorem State.setClass_agent (s : State) (c : ClassId) (v : ClassState) :
    (s.setClass c v).agent = s.agent := rfl
@[simp] theorem State.setClass_freeUses (s : State) (c : ClassId) (v : ClassState) :
    (s.setClass c v).freeUses = s.freeUses := rfl

/-! ## Counters and events -/

@[simp] theorem State.count_pending (s : State) (id : CounterId) (n : Nat) : (s.count id n).pending = s.pending := rfl
@[simp] theorem State.count_link (s : State) (id : CounterId) (n : Nat) : (s.count id n).link = s.link := rfl
@[simp] theorem State.count_receivers (s : State) (id : CounterId) (n : Nat) :
    (s.count id n).receivers = s.receivers := rfl
@[simp] theorem State.count_transmitters (s : State) (id : CounterId) (n : Nat) :
    (s.count id n).transmitters = s.transmitters := rfl
@[simp] theorem State.count_lineOut (s : State) (id : CounterId) (n : Nat) : (s.count id n).lineOut = s.lineOut := rfl
@[simp] theorem State.count_store (s : State) (id : CounterId) (n : Nat) : (s.count id n).store = s.store := rfl
@[simp] theorem State.count_runCount (s : State) (id : CounterId) (n : Nat) :
    (s.count id n).runCount = s.runCount := rfl
@[simp] theorem State.count_engine (s : State) (id : CounterId) (n : Nat) : (s.count id n).engine = s.engine := rfl
@[simp] theorem State.count_tables (s : State) (id : CounterId) (n : Nat) : (s.count id n).tables = s.tables := rfl
@[simp] theorem State.count_monitors (s : State) (id : CounterId) (n : Nat) :
    (s.count id n).monitors = s.monitors := rfl
@[simp] theorem State.count_classes (s : State) (id : CounterId) (n : Nat) : (s.count id n).classes = s.classes := rfl
@[simp] theorem State.count_events (s : State) (id : CounterId) (n : Nat) : (s.count id n).events = s.events := rfl
@[simp] theorem State.count_notice (s : State) (id : CounterId) (n : Nat) : (s.count id n).notice = s.notice := rfl
@[simp] theorem State.count_counters (s : State) (id : CounterId) (n : Nat) :
    (s.count id n).counters = s.counters.set id ((s.counters.get id).add n) := rfl
@[simp] theorem State.count_time (s : State) (id : CounterId) (n : Nat) : (s.count id n).time = s.time := rfl
@[simp] theorem State.count_agent (s : State) (id : CounterId) (n : Nat) : (s.count id n).agent = s.agent := rfl
@[simp] theorem State.count_freeUses (s : State) (id : CounterId) (n : Nat) :
    (s.count id n).freeUses = s.freeUses := rfl

@[simp] theorem State.raise_pending (s : State) (k : EventKind) (a q : Byte) (d : Word) :
    (s.raise k a q d).pending = s.pending := rfl
@[simp] theorem State.raise_link (s : State) (k : EventKind) (a q : Byte) (d : Word) :
    (s.raise k a q d).link = s.link := rfl
@[simp] theorem State.raise_receivers (s : State) (k : EventKind) (a q : Byte) (d : Word) :
    (s.raise k a q d).receivers = s.receivers := rfl
@[simp] theorem State.raise_transmitters (s : State) (k : EventKind) (a q : Byte) (d : Word) :
    (s.raise k a q d).transmitters = s.transmitters := rfl
@[simp] theorem State.raise_lineOut (s : State) (k : EventKind) (a q : Byte) (d : Word) :
    (s.raise k a q d).lineOut = s.lineOut := rfl
@[simp] theorem State.raise_store (s : State) (k : EventKind) (a q : Byte) (d : Word) :
    (s.raise k a q d).store = s.store := rfl
@[simp] theorem State.raise_runCount (s : State) (k : EventKind) (a q : Byte) (d : Word) :
    (s.raise k a q d).runCount = s.runCount := rfl
@[simp] theorem State.raise_engine (s : State) (k : EventKind) (a q : Byte) (d : Word) :
    (s.raise k a q d).engine = s.engine := rfl
@[simp] theorem State.raise_tables (s : State) (k : EventKind) (a q : Byte) (d : Word) :
    (s.raise k a q d).tables = s.tables := rfl
@[simp] theorem State.raise_monitors (s : State) (k : EventKind) (a q : Byte) (d : Word) :
    (s.raise k a q d).monitors = s.monitors := rfl
@[simp] theorem State.raise_classes (s : State) (k : EventKind) (a q : Byte) (d : Word) :
    (s.raise k a q d).classes = s.classes := rfl
@[simp] theorem State.raise_events (s : State) (k : EventKind) (a q : Byte) (d : Word) :
    (s.raise k a q d).events = s.events.append s.time k a q d := rfl
@[simp] theorem State.raise_notice (s : State) (k : EventKind) (a q : Byte) (d : Word) :
    (s.raise k a q d).notice = s.notice := rfl
@[simp] theorem State.raise_counters (s : State) (k : EventKind) (a q : Byte) (d : Word) :
    (s.raise k a q d).counters = s.counters := rfl
@[simp] theorem State.raise_time (s : State) (k : EventKind) (a q : Byte) (d : Word) :
    (s.raise k a q d).time = s.time := rfl
@[simp] theorem State.raise_agent (s : State) (k : EventKind) (a q : Byte) (d : Word) :
    (s.raise k a q d).agent = s.agent := rfl
@[simp] theorem State.raise_freeUses (s : State) (k : EventKind) (a q : Byte) (d : Word) :
    (s.raise k a q d).freeUses = s.freeUses := rfl

/-! ## The frame store -/

@[simp] theorem State.setBytes_pending (s : State) (l : List Host.Cell) : (s.setBytes l).pending = s.pending := rfl
@[simp] theorem State.setBytes_link (s : State) (l : List Host.Cell) : (s.setBytes l).link = s.link := rfl
@[simp] theorem State.setBytes_receivers (s : State) (l : List Host.Cell) :
    (s.setBytes l).receivers = s.receivers := rfl
@[simp] theorem State.setBytes_transmitters (s : State) (l : List Host.Cell) :
    (s.setBytes l).transmitters = s.transmitters := rfl
@[simp] theorem State.setBytes_lineOut (s : State) (l : List Host.Cell) : (s.setBytes l).lineOut = s.lineOut := rfl
@[simp] theorem State.setBytes_store_bytes (s : State) (l : List Host.Cell) : (s.setBytes l).store.bytes = l := rfl
@[simp] theorem State.setBytes_store_free (s : State) (l : List Host.Cell) :
    (s.setBytes l).store.free = s.store.free := rfl
@[simp] theorem State.setBytes_store_share (s : State) (l : List Host.Cell) :
    (s.setBytes l).store.share = s.store.share := rfl
@[simp] theorem State.setBytes_store_ready (s : State) (l : List Host.Cell) :
    (s.setBytes l).store.ready = s.store.ready := rfl
@[simp] theorem State.setBytes_store_forward (s : State) (l : List Host.Cell) :
    (s.setBytes l).store.forward = s.store.forward := rfl
@[simp] theorem State.setBytes_store_purges (s : State) (l : List Host.Cell) :
    (s.setBytes l).store.purges = s.store.purges := rfl
@[simp] theorem State.setBytes_runCount (s : State) (l : List Host.Cell) : (s.setBytes l).runCount = s.runCount := rfl
@[simp] theorem State.setBytes_engine (s : State) (l : List Host.Cell) : (s.setBytes l).engine = s.engine := rfl
@[simp] theorem State.setBytes_tables (s : State) (l : List Host.Cell) : (s.setBytes l).tables = s.tables := rfl
@[simp] theorem State.setBytes_monitors (s : State) (l : List Host.Cell) : (s.setBytes l).monitors = s.monitors := rfl
@[simp] theorem State.setBytes_classes (s : State) (l : List Host.Cell) : (s.setBytes l).classes = s.classes := rfl
@[simp] theorem State.setBytes_events (s : State) (l : List Host.Cell) : (s.setBytes l).events = s.events := rfl
@[simp] theorem State.setBytes_notice (s : State) (l : List Host.Cell) : (s.setBytes l).notice = s.notice := rfl
@[simp] theorem State.setBytes_counters (s : State) (l : List Host.Cell) : (s.setBytes l).counters = s.counters := rfl
@[simp] theorem State.setBytes_time (s : State) (l : List Host.Cell) : (s.setBytes l).time = s.time := rfl
@[simp] theorem State.setBytes_agent (s : State) (l : List Host.Cell) : (s.setBytes l).agent = s.agent := rfl
@[simp] theorem State.setBytes_freeUses (s : State) (l : List Host.Cell) : (s.setBytes l).freeUses = s.freeUses := rfl

@[simp] theorem State.release_pending (s : State) (d : Descriptor) : (s.release d).pending = s.pending := rfl
@[simp] theorem State.release_link (s : State) (d : Descriptor) : (s.release d).link = s.link := rfl
@[simp] theorem State.release_receivers (s : State) (d : Descriptor) : (s.release d).receivers = s.receivers := rfl
@[simp] theorem State.release_transmitters (s : State) (d : Descriptor) :
    (s.release d).transmitters = s.transmitters := rfl
@[simp] theorem State.release_lineOut (s : State) (d : Descriptor) : (s.release d).lineOut = s.lineOut := rfl
@[simp] theorem State.release_store_bytes (s : State) (d : Descriptor) :
    (s.release d).store.bytes = s.store.bytes := rfl
@[simp] theorem State.release_store_free (s : State) (d : Descriptor) :
    (s.release d).store.free = s.store.free ++ d.blocks := rfl
@[simp] theorem State.release_store_share (s : State) (d : Descriptor) :
    (s.release d).store.share = s.store.share.set d.ingress (s.store.share.get d.ingress - d.blocks.length) := rfl
@[simp] theorem State.release_store_ready (s : State) (d : Descriptor) :
    (s.release d).store.ready = s.store.ready := rfl
@[simp] theorem State.release_store_forward (s : State) (d : Descriptor) :
    (s.release d).store.forward = s.store.forward := rfl
@[simp] theorem State.release_store_purges (s : State) (d : Descriptor) :
    (s.release d).store.purges = s.store.purges := rfl
@[simp] theorem State.release_runCount (s : State) (d : Descriptor) : (s.release d).runCount = s.runCount := rfl
@[simp] theorem State.release_engine (s : State) (d : Descriptor) : (s.release d).engine = s.engine := rfl
@[simp] theorem State.release_tables (s : State) (d : Descriptor) : (s.release d).tables = s.tables := rfl
@[simp] theorem State.release_monitors (s : State) (d : Descriptor) : (s.release d).monitors = s.monitors := rfl
@[simp] theorem State.release_classes (s : State) (d : Descriptor) : (s.release d).classes = s.classes := rfl
@[simp] theorem State.release_events (s : State) (d : Descriptor) : (s.release d).events = s.events := rfl
@[simp] theorem State.release_notice (s : State) (d : Descriptor) : (s.release d).notice = s.notice := rfl
@[simp] theorem State.release_counters (s : State) (d : Descriptor) : (s.release d).counters = s.counters := rfl
@[simp] theorem State.release_time (s : State) (d : Descriptor) : (s.release d).time = s.time := rfl
@[simp] theorem State.release_agent (s : State) (d : Descriptor) : (s.release d).agent = s.agent := rfl
@[simp] theorem State.release_freeUses (s : State) (d : Descriptor) : (s.release d).freeUses = s.freeUses := rfl

@[simp] theorem State.requestPurge_pending (s : State) (c : ClassId) : (s.requestPurge c).pending = s.pending := rfl
@[simp] theorem State.requestPurge_link (s : State) (c : ClassId) : (s.requestPurge c).link = s.link := rfl
@[simp] theorem State.requestPurge_receivers (s : State) (c : ClassId) :
    (s.requestPurge c).receivers = s.receivers := rfl
@[simp] theorem State.requestPurge_transmitters (s : State) (c : ClassId) :
    (s.requestPurge c).transmitters = s.transmitters := rfl
@[simp] theorem State.requestPurge_lineOut (s : State) (c : ClassId) : (s.requestPurge c).lineOut = s.lineOut := rfl
@[simp] theorem State.requestPurge_store_bytes (s : State) (c : ClassId) :
    (s.requestPurge c).store.bytes = s.store.bytes := rfl
@[simp] theorem State.requestPurge_store_free (s : State) (c : ClassId) :
    (s.requestPurge c).store.free = s.store.free := rfl
@[simp] theorem State.requestPurge_store_share (s : State) (c : ClassId) :
    (s.requestPurge c).store.share = s.store.share := rfl
@[simp] theorem State.requestPurge_store_ready (s : State) (c : ClassId) :
    (s.requestPurge c).store.ready = s.store.ready := rfl
@[simp] theorem State.requestPurge_store_forward (s : State) (c : ClassId) :
    (s.requestPurge c).store.forward = s.store.forward := rfl
@[simp] theorem State.requestPurge_store_purges (s : State) (c : ClassId) :
    (s.requestPurge c).store.purges = s.store.purges ++ [c] := rfl
@[simp] theorem State.requestPurge_runCount (s : State) (c : ClassId) :
    (s.requestPurge c).runCount = s.runCount := rfl
@[simp] theorem State.requestPurge_engine (s : State) (c : ClassId) : (s.requestPurge c).engine = s.engine := rfl
@[simp] theorem State.requestPurge_tables (s : State) (c : ClassId) : (s.requestPurge c).tables = s.tables := rfl
@[simp] theorem State.requestPurge_monitors (s : State) (c : ClassId) :
    (s.requestPurge c).monitors = s.monitors := rfl
@[simp] theorem State.requestPurge_classes (s : State) (c : ClassId) : (s.requestPurge c).classes = s.classes := rfl
@[simp] theorem State.requestPurge_events (s : State) (c : ClassId) : (s.requestPurge c).events = s.events := rfl
@[simp] theorem State.requestPurge_notice (s : State) (c : ClassId) : (s.requestPurge c).notice = s.notice := rfl
@[simp] theorem State.requestPurge_counters (s : State) (c : ClassId) :
    (s.requestPurge c).counters = s.counters := rfl
@[simp] theorem State.requestPurge_time (s : State) (c : ClassId) : (s.requestPurge c).time = s.time := rfl
@[simp] theorem State.requestPurge_agent (s : State) (c : ClassId) : (s.requestPurge c).agent = s.agent := rfl
@[simp] theorem State.requestPurge_freeUses (s : State) (c : ClassId) :
    (s.requestPurge c).freeUses = s.freeUses := rfl

/-! ## The agent -/

@[simp] theorem State.dequeue_pending (s : State) : s.dequeue.pending = s.pending := rfl
@[simp] theorem State.dequeue_link (s : State) : s.dequeue.link = s.link := rfl
@[simp] theorem State.dequeue_receivers (s : State) : s.dequeue.receivers = s.receivers := rfl
@[simp] theorem State.dequeue_transmitters (s : State) : s.dequeue.transmitters = s.transmitters := rfl
@[simp] theorem State.dequeue_lineOut (s : State) : s.dequeue.lineOut = s.lineOut := rfl
@[simp] theorem State.dequeue_store (s : State) : s.dequeue.store = s.store := rfl
@[simp] theorem State.dequeue_runCount (s : State) : s.dequeue.runCount = s.runCount := rfl
@[simp] theorem State.dequeue_engine (s : State) : s.dequeue.engine = s.engine := rfl
@[simp] theorem State.dequeue_tables (s : State) : s.dequeue.tables = s.tables := rfl
@[simp] theorem State.dequeue_monitors (s : State) : s.dequeue.monitors = s.monitors := rfl
@[simp] theorem State.dequeue_classes (s : State) : s.dequeue.classes = s.classes := rfl
@[simp] theorem State.dequeue_events (s : State) : s.dequeue.events = s.events := rfl
@[simp] theorem State.dequeue_notice (s : State) : s.dequeue.notice = s.notice := rfl
@[simp] theorem State.dequeue_counters (s : State) : s.dequeue.counters = s.counters := rfl
@[simp] theorem State.dequeue_time (s : State) : s.dequeue.time = s.time := rfl
@[simp] theorem State.dequeue_agent_ownAddress (s : State) : s.dequeue.agent.ownAddress = s.agent.ownAddress := rfl
@[simp] theorem State.dequeue_agent_portSet (s : State) : s.dequeue.agent.portSet = s.agent.portSet := rfl
@[simp] theorem State.dequeue_agent_sources (s : State) : s.dequeue.agent.sources = s.agent.sources := rfl
@[simp] theorem State.dequeue_agent_inbox (s : State) : s.dequeue.agent.inbox = s.agent.inbox := rfl
@[simp] theorem State.dequeue_agent_requests (s : State) : s.dequeue.agent.requests = s.agent.requests.tail := rfl
@[simp] theorem State.dequeue_agent_responses (s : State) : s.dequeue.agent.responses = s.agent.responses := rfl
@[simp] theorem State.dequeue_agent_pendingResults (s : State) :
    s.dequeue.agent.pendingResults = s.agent.pendingResults := rfl
@[simp] theorem State.dequeue_agent_cache (s : State) : s.dequeue.agent.cache = s.agent.cache := rfl
@[simp] theorem State.dequeue_freeUses (s : State) : s.dequeue.freeUses = s.freeUses := rfl

@[simp] theorem State.cacheResponse_pending (s : State) (p : Port) (a : Byte) (t : Half) (f : Originated) :
    (s.cacheResponse p a t f).pending = s.pending := rfl
@[simp] theorem State.cacheResponse_link (s : State) (p : Port) (a : Byte) (t : Half) (f : Originated) :
    (s.cacheResponse p a t f).link = s.link := rfl
@[simp] theorem State.cacheResponse_receivers (s : State) (p : Port) (a : Byte) (t : Half) (f : Originated) :
    (s.cacheResponse p a t f).receivers = s.receivers := rfl
@[simp] theorem State.cacheResponse_transmitters (s : State) (p : Port) (a : Byte) (t : Half) (f : Originated) :
    (s.cacheResponse p a t f).transmitters = s.transmitters := rfl
@[simp] theorem State.cacheResponse_lineOut (s : State) (p : Port) (a : Byte) (t : Half) (f : Originated) :
    (s.cacheResponse p a t f).lineOut = s.lineOut := rfl
@[simp] theorem State.cacheResponse_store (s : State) (p : Port) (a : Byte) (t : Half) (f : Originated) :
    (s.cacheResponse p a t f).store = s.store := rfl
@[simp] theorem State.cacheResponse_runCount (s : State) (p : Port) (a : Byte) (t : Half) (f : Originated) :
    (s.cacheResponse p a t f).runCount = s.runCount := rfl
@[simp] theorem State.cacheResponse_engine (s : State) (p : Port) (a : Byte) (t : Half) (f : Originated) :
    (s.cacheResponse p a t f).engine = s.engine := rfl
@[simp] theorem State.cacheResponse_tables (s : State) (p : Port) (a : Byte) (t : Half) (f : Originated) :
    (s.cacheResponse p a t f).tables = s.tables := rfl
@[simp] theorem State.cacheResponse_monitors (s : State) (p : Port) (a : Byte) (t : Half) (f : Originated) :
    (s.cacheResponse p a t f).monitors = s.monitors := rfl
@[simp] theorem State.cacheResponse_classes (s : State) (p : Port) (a : Byte) (t : Half) (f : Originated) :
    (s.cacheResponse p a t f).classes = s.classes := rfl
@[simp] theorem State.cacheResponse_events (s : State) (p : Port) (a : Byte) (t : Half) (f : Originated) :
    (s.cacheResponse p a t f).events = s.events := rfl
@[simp] theorem State.cacheResponse_notice (s : State) (p : Port) (a : Byte) (t : Half) (f : Originated) :
    (s.cacheResponse p a t f).notice = s.notice := rfl
@[simp] theorem State.cacheResponse_counters (s : State) (p : Port) (a : Byte) (t : Half) (f : Originated) :
    (s.cacheResponse p a t f).counters = s.counters := rfl
@[simp] theorem State.cacheResponse_time (s : State) (p : Port) (a : Byte) (t : Half) (f : Originated) :
    (s.cacheResponse p a t f).time = s.time := rfl
@[simp] theorem State.cacheResponse_agent_ownAddress (s : State) (p : Port) (a : Byte) (t : Half) (f : Originated) :
    (s.cacheResponse p a t f).agent.ownAddress = s.agent.ownAddress := rfl
@[simp] theorem State.cacheResponse_agent_portSet (s : State) (p : Port) (a : Byte) (t : Half) (f : Originated) :
    (s.cacheResponse p a t f).agent.portSet = s.agent.portSet := rfl
@[simp] theorem State.cacheResponse_agent_sources (s : State) (p : Port) (a : Byte) (t : Half) (f : Originated) :
    (s.cacheResponse p a t f).agent.sources = s.agent.sources := rfl
@[simp] theorem State.cacheResponse_agent_inbox (s : State) (p : Port) (a : Byte) (t : Half) (f : Originated) :
    (s.cacheResponse p a t f).agent.inbox = s.agent.inbox := rfl
@[simp] theorem State.cacheResponse_agent_requests (s : State) (p : Port) (a : Byte) (t : Half) (f : Originated) :
    (s.cacheResponse p a t f).agent.requests = s.agent.requests := rfl
@[simp] theorem State.cacheResponse_agent_responses (s : State) (p : Port) (a : Byte) (t : Half) (f : Originated) :
    (s.cacheResponse p a t f).agent.responses = s.agent.responses := rfl
@[simp] theorem State.cacheResponse_agent_pendingResults (s : State) (p : Port) (a : Byte) (t : Half) (f : Originated) :
    (s.cacheResponse p a t f).agent.pendingResults = s.agent.pendingResults := rfl
@[simp] theorem State.cacheResponse_agent_cache (s : State) (p : Port) (a : Byte) (t : Half) (f : Originated) :
    (s.cacheResponse p a t f).agent.cache = cacheInsert ⟨p, a, t, f⟩ s.agent.cache := rfl
@[simp] theorem State.cacheResponse_freeUses (s : State) (p : Port) (a : Byte) (t : Half) (f : Originated) :
    (s.cacheResponse p a t f).freeUses = s.freeUses := rfl

@[simp] theorem State.reserve_pending (s : State) (r : Request) : (s.reserve r).pending = s.pending := rfl
@[simp] theorem State.reserve_link (s : State) (r : Request) : (s.reserve r).link = s.link := rfl
@[simp] theorem State.reserve_receivers (s : State) (r : Request) : (s.reserve r).receivers = s.receivers := rfl
@[simp] theorem State.reserve_transmitters (s : State) (r : Request) :
    (s.reserve r).transmitters = s.transmitters := rfl
@[simp] theorem State.reserve_lineOut (s : State) (r : Request) : (s.reserve r).lineOut = s.lineOut := rfl
@[simp] theorem State.reserve_store (s : State) (r : Request) : (s.reserve r).store = s.store := rfl
@[simp] theorem State.reserve_runCount (s : State) (r : Request) : (s.reserve r).runCount = s.runCount := rfl
@[simp] theorem State.reserve_engine (s : State) (r : Request) : (s.reserve r).engine = s.engine := rfl
@[simp] theorem State.reserve_tables (s : State) (r : Request) : (s.reserve r).tables = s.tables := rfl
@[simp] theorem State.reserve_monitors (s : State) (r : Request) : (s.reserve r).monitors = s.monitors := rfl
@[simp] theorem State.reserve_classes (s : State) (r : Request) : (s.reserve r).classes = s.classes := rfl
@[simp] theorem State.reserve_events (s : State) (r : Request) : (s.reserve r).events = s.events := rfl
@[simp] theorem State.reserve_notice (s : State) (r : Request) : (s.reserve r).notice = s.notice := rfl
@[simp] theorem State.reserve_counters (s : State) (r : Request) : (s.reserve r).counters = s.counters := rfl
@[simp] theorem State.reserve_time (s : State) (r : Request) : (s.reserve r).time = s.time := rfl
@[simp] theorem State.reserve_agent_ownAddress (s : State) (r : Request) :
    (s.reserve r).agent.ownAddress = s.agent.ownAddress := rfl
@[simp] theorem State.reserve_agent_portSet (s : State) (r : Request) :
    (s.reserve r).agent.portSet = s.agent.portSet := rfl
@[simp] theorem State.reserve_agent_sources (s : State) (r : Request) :
    (s.reserve r).agent.sources = s.agent.sources := rfl
@[simp] theorem State.reserve_agent_inbox (s : State) (r : Request) : (s.reserve r).agent.inbox = s.agent.inbox := rfl
@[simp] theorem State.reserve_agent_requests (s : State) (r : Request) :
    (s.reserve r).agent.requests = s.agent.requests := rfl
@[simp] theorem State.reserve_agent_responses (s : State) (r : Request) :
    (s.reserve r).agent.responses = s.agent.responses := rfl
@[simp] theorem State.reserve_agent_pendingResults (s : State) (r : Request) :
    (s.reserve r).agent.pendingResults = s.agent.pendingResults ++ [⟨r.port, r.source, r.seq, r.tag, r.command, true⟩] := rfl
@[simp] theorem State.reserve_agent_cache (s : State) (r : Request) : (s.reserve r).agent.cache = s.agent.cache := rfl
@[simp] theorem State.reserve_freeUses (s : State) (r : Request) : (s.reserve r).freeUses = s.freeUses := rfl

/-! ## The table service -/

@[simp] theorem State.postReport_pending (s : State) (r : Report) : (s.postReport r).pending = s.pending := rfl
@[simp] theorem State.postReport_link (s : State) (r : Report) : (s.postReport r).link = s.link := rfl
@[simp] theorem State.postReport_receivers (s : State) (r : Report) : (s.postReport r).receivers = s.receivers := rfl
@[simp] theorem State.postReport_transmitters (s : State) (r : Report) :
    (s.postReport r).transmitters = s.transmitters := rfl
@[simp] theorem State.postReport_lineOut (s : State) (r : Report) : (s.postReport r).lineOut = s.lineOut := rfl
@[simp] theorem State.postReport_store (s : State) (r : Report) : (s.postReport r).store = s.store := rfl
@[simp] theorem State.postReport_runCount (s : State) (r : Report) : (s.postReport r).runCount = s.runCount := rfl
@[simp] theorem State.postReport_engine (s : State) (r : Report) : (s.postReport r).engine = s.engine := rfl
@[simp] theorem State.postReport_tables_banks (s : State) (r : Report) :
    (s.postReport r).tables.banks = s.tables.banks := rfl
@[simp] theorem State.postReport_tables_state (s : State) (r : Report) :
    (s.postReport r).tables.state = s.tables.state := rfl
@[simp] theorem State.postReport_tables_verify (s : State) (r : Report) :
    (s.postReport r).tables.verify = s.tables.verify := rfl
@[simp] theorem State.postReport_tables_reports (s : State) (r : Report) :
    (s.postReport r).tables.reports = s.tables.reports ++ [r] := rfl
@[simp] theorem State.postReport_monitors (s : State) (r : Report) : (s.postReport r).monitors = s.monitors := rfl
@[simp] theorem State.postReport_classes (s : State) (r : Report) : (s.postReport r).classes = s.classes := rfl
@[simp] theorem State.postReport_events (s : State) (r : Report) : (s.postReport r).events = s.events := rfl
@[simp] theorem State.postReport_notice (s : State) (r : Report) : (s.postReport r).notice = s.notice := rfl
@[simp] theorem State.postReport_counters (s : State) (r : Report) : (s.postReport r).counters = s.counters := rfl
@[simp] theorem State.postReport_time (s : State) (r : Report) : (s.postReport r).time = s.time := rfl
@[simp] theorem State.postReport_agent (s : State) (r : Report) : (s.postReport r).agent = s.agent := rfl
@[simp] theorem State.postReport_freeUses (s : State) (r : Report) : (s.postReport r).freeUses = s.freeUses := rfl

end Sys2Proof.Machine
end

