-- ==== Sys2Proof/Laws/Ops.lean ====
section
/-! SUPPORT. What each shared operation can do and what it leaves alone, said once. -/

namespace Sys2Proof.Machine

/-! ## Counters -/

theorem Counters.get_set_same (c : Counters) (id : CounterId) (v : Counter) : (c.set id v).get id = v := by
  cases id <;> simp [Counters.get, Counters.set]

theorem portCounterIndex_injective {i j : PortCounter} (h : portCounterIndex i = portCounterIndex j) : i = j := by
  cases i <;> cases j <;> first | rfl | exact absurd h (by decide)

theorem classCounterIndex_injective {i j : ClassCounter} (h : classCounterIndex i = classCounterIndex j) : i = j := by
  cases i <;> cases j <;> first | rfl | exact absurd h (by decide)

theorem screenCounterIndex_injective {i j : FaultKind} (h : screenCounterIndex i = screenCounterIndex j) : i = j := by
  cases i <;> cases j <;> first | rfl | exact absurd h (by decide)

theorem mgmtCounterIndex_injective {i j : MgmtCounter} (h : mgmtCounterIndex i = mgmtCounterIndex j) : i = j := by
  cases i <;> cases j <;> first | rfl | exact absurd h (by decide)

theorem noticeCounterIndex_injective {i j : NoticeCounter} (h : noticeCounterIndex i = noticeCounterIndex j) :
    i = j := by
  cases i <;> cases j <;> first | rfl | exact absurd h (by decide)

/-- An increment reaches its own counter alone (R152). -/
theorem Counters.get_set_of_ne (c : Counters) {id id' : CounterId} (v : Counter) (h : id' ≠ id) :
    (c.set id v).get id' = c.get id' := by
  cases id with
  | port p i =>
    cases id' with
    | port q j =>
      cases p <;> cases q <;> first
        | rfl
        | refine Vector.getElem_set_ne (portCounterIndex i).isLt (portCounterIndex j).isLt fun hv => h ?_
          rw [portCounterIndex_injective (Fin.ext hv.symm)]
    | _ => rfl
  | cls k i =>
    cases id' with
    | cls l j =>
      by_cases e : l = k
      · subst e
        have hl : (c.set (.cls l i) v).cls[l] =
            (c.cls[l]).set (classCounterIndex i).val v (classCounterIndex i).isLt := Vector.getElem_set_self _
        refine (congrArg (fun x : Vector Counter 6 => x[classCounterIndex j]) hl).trans ?_
        refine Vector.getElem_set_ne _ _ fun hv => h ?_
        rw [classCounterIndex_injective (Fin.ext hv.symm)]
      · have hl : (c.set (.cls k i) v).cls[l] = c.cls[l] :=
          Vector.getElem_set_ne k.isLt l.isLt fun hv => e (Fin.ext hv.symm)
        exact congrArg (fun x : Vector Counter 6 => x[classCounterIndex j]) hl
    | _ => rfl
  | screen f =>
    cases id' with
    | screen g =>
      refine Vector.getElem_set_ne (screenCounterIndex f).isLt (screenCounterIndex g).isLt fun hv => h ?_
      rw [screenCounterIndex_injective (Fin.ext hv.symm)]
    | _ => rfl
  | mgmt i =>
    cases id' with
    | mgmt j =>
      refine Vector.getElem_set_ne (mgmtCounterIndex i).isLt (mgmtCounterIndex j).isLt fun hv => h ?_
      rw [mgmtCounterIndex_injective (Fin.ext hv.symm)]
    | _ => rfl
  | notice i =>
    cases id' with
    | notice j =>
      refine Vector.getElem_set_ne (noticeCounterIndex i).isLt (noticeCounterIndex j).isLt fun hv => h ?_
      rw [noticeCounterIndex_injective (Fin.ext hv.symm)]
    | _ => rfl

/-- Counting adds to its counter (R151). -/
@[simp] theorem State.counter_count_same (s : State) (id : CounterId) (n : Nat) :
    (s.count id n).counter id = (s.counter id).add n := Counters.get_set_same _ _ _

theorem State.counter_count_of_ne (s : State) {id id' : CounterId} (n : Nat) (h : id' ≠ id) :
    (s.count id n).counter id' = s.counter id' := Counters.get_set_of_ne _ _ h

/-! ## The event queue -/

@[simp] theorem EventQueue.append_outstanding (q : EventQueue) (t : Word) (k : EventKind) (a b : Byte) (d : Word) :
    (q.append t k a b d).outstanding = q.outstanding := by
  simp only [EventQueue.append]; (repeat' split) <;> rfl

/-- A coalescing changes no length. -/
theorem coalesceNewest_length {k : EventKind} {a b : Byte} {d : Word} :
    ∀ {l l' : List Queued}, coalesceNewest k a b d l = some l' → l'.length = l.length
  | [], _, h => by simp [coalesceNewest] at h
  | q :: l, l', h => by
    simp only [coalesceNewest] at h
    split at h
    · rename_i r hr
      cases h
      simp [coalesceNewest_length hr]
    · split at h
      · cases h; rfl
      · cases h

/-- A coalescing changes no sequence number. -/
theorem coalesceNewest_seq {k : EventKind} {a b : Byte} {d : Word} :
    ∀ {l l' : List Queued}, coalesceNewest k a b d l = some l' → l'.map (·.record.seq) = l.map (·.record.seq)
  | [], _, h => by simp [coalesceNewest] at h
  | q :: l, l', h => by
    simp only [coalesceNewest] at h
    split at h
    · rename_i r hr
      cases h
      simp [coalesceNewest_seq hr]
    · split at h
      · cases h; rfl
      · cases h

/-- What an append can do (R134, R136, R137): coalesce, store, or lose. -/
theorem EventQueue.append_cases (q : EventQueue) (t : Word) (k : EventKind) (a b : Byte) (d : Word) :
    (∃ l, coalesces k = true ∧ coalesceNewest k a b d q.unsent = some l ∧ q.append t k a b d = { q with unsent := l }) ∨
    (q.size < Config.eventCapacity ∧ q.append t k a b d = q.store t k a b d) ∨
    (Config.eventCapacity ≤ q.size ∧ q.append t k a b d = { q with lost := min (q.lost + 1) 65535 }) := by
  simp only [EventQueue.append]
  split
  · rename_i l hl
    split at hl
    · exact .inl ⟨l, ‹_›, hl, rfl⟩
    · cases hl
  · split
    · exact .inr (.inl ⟨‹_›, rfl⟩)
    · exact .inr (.inr ⟨by omega, rfl⟩)

/-- A kind that is not coalesced is stored, or lost to a full queue. -/
theorem EventQueue.append_of_not_coalesces (q : EventQueue) (t : Word) {k : EventKind} (a b : Byte) (d : Word)
    (h : coalesces k = false) :
    q.append t k a b d =
      if q.size < Config.eventCapacity then q.store t k a b d else { q with lost := min (q.lost + 1) 65535 } := by
  simp [EventQueue.append, h]

/-! ## Composite operations: what each leaves alone -/

@[simp] theorem State.recompute_pending (s : State) (c : ClassId) (w : Word) :
    (s.recompute c w).pending = s.pending := by
  simp only [State.recompute]; (repeat' split) <;> simp
@[simp] theorem State.recompute_link (s : State) (c : ClassId) (w : Word) :
    (s.recompute c w).link = s.link := by
  simp only [State.recompute]; (repeat' split) <;> simp
@[simp] theorem State.recompute_receivers (s : State) (c : ClassId) (w : Word) :
    (s.recompute c w).receivers = s.receivers := by
  simp only [State.recompute]; (repeat' split) <;> simp
@[simp] theorem State.recompute_transmitters (s : State) (c : ClassId) (w : Word) :
    (s.recompute c w).transmitters = s.transmitters := by
  simp only [State.recompute]; (repeat' split) <;> simp
@[simp] theorem State.recompute_lineOut (s : State) (c : ClassId) (w : Word) :
    (s.recompute c w).lineOut = s.lineOut := by
  simp only [State.recompute]; (repeat' split) <;> simp
@[simp] theorem State.recompute_store_bytes (s : State) (c : ClassId) (w : Word) :
    (s.recompute c w).store.bytes = s.store.bytes := by
  simp only [State.recompute]; (repeat' split) <;> simp
@[simp] theorem State.recompute_store_free (s : State) (c : ClassId) (w : Word) :
    (s.recompute c w).store.free = s.store.free := by
  simp only [State.recompute]; (repeat' split) <;> simp
@[simp] theorem State.recompute_store_share (s : State) (c : ClassId) (w : Word) :
    (s.recompute c w).store.share = s.store.share := by
  simp only [State.recompute]; (repeat' split) <;> simp
@[simp] theorem State.recompute_store_ready (s : State) (c : ClassId) (w : Word) :
    (s.recompute c w).store.ready = s.store.ready := by
  simp only [State.recompute]; (repeat' split) <;> simp
@[simp] theorem State.recompute_store_forward (s : State) (c : ClassId) (w : Word) :
    (s.recompute c w).store.forward = s.store.forward := by
  simp only [State.recompute]; (repeat' split) <;> simp
@[simp] theorem State.recompute_runCount (s : State) (c : ClassId) (w : Word) :
    (s.recompute c w).runCount = s.runCount := by
  simp only [State.recompute]; (repeat' split) <;> simp
@[simp] theorem State.recompute_engine (s : State) (c : ClassId) (w : Word) :
    (s.recompute c w).engine = s.engine := by
  simp only [State.recompute]; (repeat' split) <;> simp
@[simp] theorem State.recompute_tables (s : State) (c : ClassId) (w : Word) :
    (s.recompute c w).tables = s.tables := by
  simp only [State.recompute]; (repeat' split) <;> simp
@[simp] theorem State.recompute_monitors (s : State) (c : ClassId) (w : Word) :
    (s.recompute c w).monitors = s.monitors := by
  simp only [State.recompute]; (repeat' split) <;> simp
@[simp] theorem State.recompute_notice (s : State) (c : ClassId) (w : Word) :
    (s.recompute c w).notice = s.notice := by
  simp only [State.recompute]; (repeat' split) <;> simp
@[simp] theorem State.recompute_counters (s : State) (c : ClassId) (w : Word) :
    (s.recompute c w).counters = s.counters := by
  simp only [State.recompute]; (repeat' split) <;> simp
@[simp] theorem State.recompute_time (s : State) (c : ClassId) (w : Word) :
    (s.recompute c w).time = s.time := by
  simp only [State.recompute]; (repeat' split) <;> simp
@[simp] theorem State.recompute_agent (s : State) (c : ClassId) (w : Word) :
    (s.recompute c w).agent = s.agent := by
  simp only [State.recompute]; (repeat' split) <;> simp
@[simp] theorem State.recompute_freeUses (s : State) (c : ClassId) (w : Word) :
    (s.recompute c w).freeUses = s.freeUses := by
  simp only [State.recompute]; (repeat' split) <;> simp

@[simp] theorem State.report_pending (s : State) (m : MonitorId) (e : Bool) :
    (s.report m e).pending = s.pending := by
  simp [State.report]
@[simp] theorem State.report_link (s : State) (m : MonitorId) (e : Bool) :
    (s.report m e).link = s.link := by
  simp [State.report]
@[simp] theorem State.report_receivers (s : State) (m : MonitorId) (e : Bool) :
    (s.report m e).receivers = s.receivers := by
  simp [State.report]
@[simp] theorem State.report_transmitters (s : State) (m : MonitorId) (e : Bool) :
    (s.report m e).transmitters = s.transmitters := by
  simp [State.report]
@[simp] theorem State.report_lineOut (s : State) (m : MonitorId) (e : Bool) :
    (s.report m e).lineOut = s.lineOut := by
  simp [State.report]
@[simp] theorem State.report_store_bytes (s : State) (m : MonitorId) (e : Bool) :
    (s.report m e).store.bytes = s.store.bytes := by
  simp [State.report]
@[simp] theorem State.report_store_free (s : State) (m : MonitorId) (e : Bool) :
    (s.report m e).store.free = s.store.free := by
  simp [State.report]
@[simp] theorem State.report_store_share (s : State) (m : MonitorId) (e : Bool) :
    (s.report m e).store.share = s.store.share := by
  simp [State.report]
@[simp] theorem State.report_store_ready (s : State) (m : MonitorId) (e : Bool) :
    (s.report m e).store.ready = s.store.ready := by
  simp [State.report]
@[simp] theorem State.report_store_forward (s : State) (m : MonitorId) (e : Bool) :
    (s.report m e).store.forward = s.store.forward := by
  simp [State.report]
@[simp] theorem State.report_runCount (s : State) (m : MonitorId) (e : Bool) :
    (s.report m e).runCount = s.runCount := by
  simp [State.report]
@[simp] theorem State.report_engine (s : State) (m : MonitorId) (e : Bool) :
    (s.report m e).engine = s.engine := by
  simp [State.report]
@[simp] theorem State.report_tables (s : State) (m : MonitorId) (e : Bool) :
    (s.report m e).tables = s.tables := by
  simp [State.report]
@[simp] theorem State.report_monitors (s : State) (m : MonitorId) (e : Bool) :
    (s.report m e).monitors = s.monitors := by
  simp [State.report]
@[simp] theorem State.report_notice (s : State) (m : MonitorId) (e : Bool) :
    (s.report m e).notice = s.notice := by
  simp [State.report]
@[simp] theorem State.report_counters (s : State) (m : MonitorId) (e : Bool) :
    (s.report m e).counters = s.counters := by
  simp [State.report]
@[simp] theorem State.report_time (s : State) (m : MonitorId) (e : Bool) :
    (s.report m e).time = s.time := by
  simp [State.report]
@[simp] theorem State.report_agent (s : State) (m : MonitorId) (e : Bool) :
    (s.report m e).agent = s.agent := by
  simp [State.report]
@[simp] theorem State.report_freeUses (s : State) (m : MonitorId) (e : Bool) :
    (s.report m e).freeUses = s.freeUses := by
  simp [State.report]

@[simp] theorem State.makeTransition_pending (s : State) (m : MonitorId) (t : Transition) :
    (s.makeTransition m t).pending = s.pending := by
  simp only [State.makeTransition]; (repeat' split) <;> simp
@[simp] theorem State.makeTransition_link (s : State) (m : MonitorId) (t : Transition) :
    (s.makeTransition m t).link = s.link := by
  simp only [State.makeTransition]; (repeat' split) <;> simp
@[simp] theorem State.makeTransition_receivers (s : State) (m : MonitorId) (t : Transition) :
    (s.makeTransition m t).receivers = s.receivers := by
  simp only [State.makeTransition]; (repeat' split) <;> simp
@[simp] theorem State.makeTransition_transmitters (s : State) (m : MonitorId) (t : Transition) :
    (s.makeTransition m t).transmitters = s.transmitters := by
  simp only [State.makeTransition]; (repeat' split) <;> simp
@[simp] theorem State.makeTransition_lineOut (s : State) (m : MonitorId) (t : Transition) :
    (s.makeTransition m t).lineOut = s.lineOut := by
  simp only [State.makeTransition]; (repeat' split) <;> simp
@[simp] theorem State.makeTransition_store_bytes (s : State) (m : MonitorId) (t : Transition) :
    (s.makeTransition m t).store.bytes = s.store.bytes := by
  simp only [State.makeTransition]; (repeat' split) <;> simp
@[simp] theorem State.makeTransition_store_free (s : State) (m : MonitorId) (t : Transition) :
    (s.makeTransition m t).store.free = s.store.free := by
  simp only [State.makeTransition]; (repeat' split) <;> simp
@[simp] theorem State.makeTransition_store_share (s : State) (m : MonitorId) (t : Transition) :
    (s.makeTransition m t).store.share = s.store.share := by
  simp only [State.makeTransition]; (repeat' split) <;> simp
@[simp] theorem State.makeTransition_store_ready (s : State) (m : MonitorId) (t : Transition) :
    (s.makeTransition m t).store.ready = s.store.ready := by
  simp only [State.makeTransition]; (repeat' split) <;> simp
@[simp] theorem State.makeTransition_store_forward (s : State) (m : MonitorId) (t : Transition) :
    (s.makeTransition m t).store.forward = s.store.forward := by
  simp only [State.makeTransition]; (repeat' split) <;> simp
@[simp] theorem State.makeTransition_runCount (s : State) (m : MonitorId) (t : Transition) :
    (s.makeTransition m t).runCount = s.runCount := by
  simp only [State.makeTransition]; (repeat' split) <;> simp
@[simp] theorem State.makeTransition_engine (s : State) (m : MonitorId) (t : Transition) :
    (s.makeTransition m t).engine = s.engine := by
  simp only [State.makeTransition]; (repeat' split) <;> simp
@[simp] theorem State.makeTransition_tables (s : State) (m : MonitorId) (t : Transition) :
    (s.makeTransition m t).tables = s.tables := by
  simp only [State.makeTransition]; (repeat' split) <;> simp
@[simp] theorem State.makeTransition_notice (s : State) (m : MonitorId) (t : Transition) :
    (s.makeTransition m t).notice = s.notice := by
  simp only [State.makeTransition]; (repeat' split) <;> simp
@[simp] theorem State.makeTransition_counters (s : State) (m : MonitorId) (t : Transition) :
    (s.makeTransition m t).counters = s.counters := by
  simp only [State.makeTransition]; (repeat' split) <;> simp
@[simp] theorem State.makeTransition_time (s : State) (m : MonitorId) (t : Transition) :
    (s.makeTransition m t).time = s.time := by
  simp only [State.makeTransition]; (repeat' split) <;> simp
@[simp] theorem State.makeTransition_agent (s : State) (m : MonitorId) (t : Transition) :
    (s.makeTransition m t).agent = s.agent := by
  simp only [State.makeTransition]; (repeat' split) <;> simp
@[simp] theorem State.makeTransition_freeUses (s : State) (m : MonitorId) (t : Transition) :
    (s.makeTransition m t).freeUses = s.freeUses := by
  simp only [State.makeTransition]; (repeat' split) <;> simp

@[simp] theorem State.monitorTakes_pending (s : State) (d : Screened) (m : MonitorId) :
    (State.monitorTakes d s m).pending = s.pending := by
  simp only [State.monitorTakes]; split <;> simp
@[simp] theorem State.monitorTakes_link (s : State) (d : Screened) (m : MonitorId) :
    (State.monitorTakes d s m).link = s.link := by
  simp only [State.monitorTakes]; split <;> simp
@[simp] theorem State.monitorTakes_receivers (s : State) (d : Screened) (m : MonitorId) :
    (State.monitorTakes d s m).receivers = s.receivers := by
  simp only [State.monitorTakes]; split <;> simp
@[simp] theorem State.monitorTakes_transmitters (s : State) (d : Screened) (m : MonitorId) :
    (State.monitorTakes d s m).transmitters = s.transmitters := by
  simp only [State.monitorTakes]; split <;> simp
@[simp] theorem State.monitorTakes_lineOut (s : State) (d : Screened) (m : MonitorId) :
    (State.monitorTakes d s m).lineOut = s.lineOut := by
  simp only [State.monitorTakes]; split <;> simp
@[simp] theorem State.monitorTakes_store_bytes (s : State) (d : Screened) (m : MonitorId) :
    (State.monitorTakes d s m).store.bytes = s.store.bytes := by
  simp only [State.monitorTakes]; split <;> simp
@[simp] theorem State.monitorTakes_store_free (s : State) (d : Screened) (m : MonitorId) :
    (State.monitorTakes d s m).store.free = s.store.free := by
  simp only [State.monitorTakes]; split <;> simp
@[simp] theorem State.monitorTakes_store_share (s : State) (d : Screened) (m : MonitorId) :
    (State.monitorTakes d s m).store.share = s.store.share := by
  simp only [State.monitorTakes]; split <;> simp
@[simp] theorem State.monitorTakes_store_ready (s : State) (d : Screened) (m : MonitorId) :
    (State.monitorTakes d s m).store.ready = s.store.ready := by
  simp only [State.monitorTakes]; split <;> simp
@[simp] theorem State.monitorTakes_store_forward (s : State) (d : Screened) (m : MonitorId) :
    (State.monitorTakes d s m).store.forward = s.store.forward := by
  simp only [State.monitorTakes]; split <;> simp
@[simp] theorem State.monitorTakes_runCount (s : State) (d : Screened) (m : MonitorId) :
    (State.monitorTakes d s m).runCount = s.runCount := by
  simp only [State.monitorTakes]; split <;> simp
@[simp] theorem State.monitorTakes_engine (s : State) (d : Screened) (m : MonitorId) :
    (State.monitorTakes d s m).engine = s.engine := by
  simp only [State.monitorTakes]; split <;> simp
@[simp] theorem State.monitorTakes_tables (s : State) (d : Screened) (m : MonitorId) :
    (State.monitorTakes d s m).tables = s.tables := by
  simp only [State.monitorTakes]; split <;> simp
@[simp] theorem State.monitorTakes_notice (s : State) (d : Screened) (m : MonitorId) :
    (State.monitorTakes d s m).notice = s.notice := by
  simp only [State.monitorTakes]; split <;> simp
@[simp] theorem State.monitorTakes_counters (s : State) (d : Screened) (m : MonitorId) :
    (State.monitorTakes d s m).counters = s.counters := by
  simp only [State.monitorTakes]; split <;> simp
@[simp] theorem State.monitorTakes_time (s : State) (d : Screened) (m : MonitorId) :
    (State.monitorTakes d s m).time = s.time := by
  simp only [State.monitorTakes]; split <;> simp
@[simp] theorem State.monitorTakes_agent (s : State) (d : Screened) (m : MonitorId) :
    (State.monitorTakes d s m).agent = s.agent := by
  simp only [State.monitorTakes]; split <;> simp
@[simp] theorem State.monitorTakes_freeUses (s : State) (d : Screened) (m : MonitorId) :
    (State.monitorTakes d s m).freeUses = s.freeUses := by
  simp only [State.monitorTakes]; split <;> simp

/-- What no step of a fold changes, the fold does not change. -/
theorem foldl_keeps {α β γ : Type} (f : β → γ) (g : β → α → β) (h : ∀ b a, f (g b a) = f b) :
    ∀ (l : List α) (b : β), f (l.foldl g b) = f b
  | [], _ => rfl
  | a :: l, b => by rw [List.foldl_cons, foldl_keeps f g h l, h]

@[simp] theorem State.monitorsTake_pending (s : State) (d : Screened) : (s.monitorsTake d).pending = s.pending :=
  foldl_keeps (·.pending) _ (fun t m => by simp) _ s
@[simp] theorem State.monitorsTake_link (s : State) (d : Screened) : (s.monitorsTake d).link = s.link :=
  foldl_keeps (·.link) _ (fun t m => by simp) _ s
@[simp] theorem State.monitorsTake_receivers (s : State) (d : Screened) : (s.monitorsTake d).receivers = s.receivers :=
  foldl_keeps (·.receivers) _ (fun t m => by simp) _ s
@[simp] theorem State.monitorsTake_transmitters (s : State) (d : Screened) : (s.monitorsTake d).transmitters = s.transmitters :=
  foldl_keeps (·.transmitters) _ (fun t m => by simp) _ s
@[simp] theorem State.monitorsTake_lineOut (s : State) (d : Screened) : (s.monitorsTake d).lineOut = s.lineOut :=
  foldl_keeps (·.lineOut) _ (fun t m => by simp) _ s
@[simp] theorem State.monitorsTake_store_bytes (s : State) (d : Screened) :
    (s.monitorsTake d).store.bytes = s.store.bytes := foldl_keeps (·.store.bytes) _ (fun t m => by simp) _ s
@[simp] theorem State.monitorsTake_store_free (s : State) (d : Screened) :
    (s.monitorsTake d).store.free = s.store.free := foldl_keeps (·.store.free) _ (fun t m => by simp) _ s
@[simp] theorem State.monitorsTake_store_share (s : State) (d : Screened) :
    (s.monitorsTake d).store.share = s.store.share := foldl_keeps (·.store.share) _ (fun t m => by simp) _ s
@[simp] theorem State.monitorsTake_store_ready (s : State) (d : Screened) :
    (s.monitorsTake d).store.ready = s.store.ready := foldl_keeps (·.store.ready) _ (fun t m => by simp) _ s
@[simp] theorem State.monitorsTake_store_forward (s : State) (d : Screened) :
    (s.monitorsTake d).store.forward = s.store.forward := foldl_keeps (·.store.forward) _ (fun t m => by simp) _ s
@[simp] theorem State.monitorsTake_runCount (s : State) (d : Screened) : (s.monitorsTake d).runCount = s.runCount :=
  foldl_keeps (·.runCount) _ (fun t m => by simp) _ s
@[simp] theorem State.monitorsTake_engine (s : State) (d : Screened) : (s.monitorsTake d).engine = s.engine :=
  foldl_keeps (·.engine) _ (fun t m => by simp) _ s
@[simp] theorem State.monitorsTake_tables (s : State) (d : Screened) : (s.monitorsTake d).tables = s.tables :=
  foldl_keeps (·.tables) _ (fun t m => by simp) _ s
@[simp] theorem State.monitorsTake_notice (s : State) (d : Screened) : (s.monitorsTake d).notice = s.notice :=
  foldl_keeps (·.notice) _ (fun t m => by simp) _ s
@[simp] theorem State.monitorsTake_counters (s : State) (d : Screened) : (s.monitorsTake d).counters = s.counters :=
  foldl_keeps (·.counters) _ (fun t m => by simp) _ s
@[simp] theorem State.monitorsTake_time (s : State) (d : Screened) : (s.monitorsTake d).time = s.time :=
  foldl_keeps (·.time) _ (fun t m => by simp) _ s
@[simp] theorem State.monitorsTake_agent (s : State) (d : Screened) : (s.monitorsTake d).agent = s.agent :=
  foldl_keeps (·.agent) _ (fun t m => by simp) _ s
@[simp] theorem State.monitorsTake_freeUses (s : State) (d : Screened) : (s.monitorsTake d).freeUses = s.freeUses :=
  foldl_keeps (·.freeUses) _ (fun t m => by simp) _ s

@[simp] theorem State.takeExpiry_pending (s : State) (m : MonitorId) (g : MonitorRuntime → Timer)
    (e : MonitorConfig → MonitorRuntime → Transition) :
    (s.takeExpiry m g e).pending = s.pending := by
  simp only [State.takeExpiry]; split <;> simp
@[simp] theorem State.takeExpiry_link (s : State) (m : MonitorId) (g : MonitorRuntime → Timer)
    (e : MonitorConfig → MonitorRuntime → Transition) :
    (s.takeExpiry m g e).link = s.link := by
  simp only [State.takeExpiry]; split <;> simp
@[simp] theorem State.takeExpiry_receivers (s : State) (m : MonitorId) (g : MonitorRuntime → Timer)
    (e : MonitorConfig → MonitorRuntime → Transition) :
    (s.takeExpiry m g e).receivers = s.receivers := by
  simp only [State.takeExpiry]; split <;> simp
@[simp] theorem State.takeExpiry_transmitters (s : State) (m : MonitorId) (g : MonitorRuntime → Timer)
    (e : MonitorConfig → MonitorRuntime → Transition) :
    (s.takeExpiry m g e).transmitters = s.transmitters := by
  simp only [State.takeExpiry]; split <;> simp
@[simp] theorem State.takeExpiry_lineOut (s : State) (m : MonitorId) (g : MonitorRuntime → Timer)
    (e : MonitorConfig → MonitorRuntime → Transition) :
    (s.takeExpiry m g e).lineOut = s.lineOut := by
  simp only [State.takeExpiry]; split <;> simp
@[simp] theorem State.takeExpiry_store_bytes (s : State) (m : MonitorId) (g : MonitorRuntime → Timer)
    (e : MonitorConfig → MonitorRuntime → Transition) :
    (s.takeExpiry m g e).store.bytes = s.store.bytes := by
  simp only [State.takeExpiry]; split <;> simp
@[simp] theorem State.takeExpiry_store_free (s : State) (m : MonitorId) (g : MonitorRuntime → Timer)
    (e : MonitorConfig → MonitorRuntime → Transition) :
    (s.takeExpiry m g e).store.free = s.store.free := by
  simp only [State.takeExpiry]; split <;> simp
@[simp] theorem State.takeExpiry_store_share (s : State) (m : MonitorId) (g : MonitorRuntime → Timer)
    (e : MonitorConfig → MonitorRuntime → Transition) :
    (s.takeExpiry m g e).store.share = s.store.share := by
  simp only [State.takeExpiry]; split <;> simp
@[simp] theorem State.takeExpiry_store_ready (s : State) (m : MonitorId) (g : MonitorRuntime → Timer)
    (e : MonitorConfig → MonitorRuntime → Transition) :
    (s.takeExpiry m g e).store.ready = s.store.ready := by
  simp only [State.takeExpiry]; split <;> simp
@[simp] theorem State.takeExpiry_store_forward (s : State) (m : MonitorId) (g : MonitorRuntime → Timer)
    (e : MonitorConfig → MonitorRuntime → Transition) :
    (s.takeExpiry m g e).store.forward = s.store.forward := by
  simp only [State.takeExpiry]; split <;> simp
@[simp] theorem State.takeExpiry_runCount (s : State) (m : MonitorId) (g : MonitorRuntime → Timer)
    (e : MonitorConfig → MonitorRuntime → Transition) :
    (s.takeExpiry m g e).runCount = s.runCount := by
  simp only [State.takeExpiry]; split <;> simp
@[simp] theorem State.takeExpiry_engine (s : State) (m : MonitorId) (g : MonitorRuntime → Timer)
    (e : MonitorConfig → MonitorRuntime → Transition) :
    (s.takeExpiry m g e).engine = s.engine := by
  simp only [State.takeExpiry]; split <;> simp
@[simp] theorem State.takeExpiry_tables (s : State) (m : MonitorId) (g : MonitorRuntime → Timer)
    (e : MonitorConfig → MonitorRuntime → Transition) :
    (s.takeExpiry m g e).tables = s.tables := by
  simp only [State.takeExpiry]; split <;> simp
@[simp] theorem State.takeExpiry_notice (s : State) (m : MonitorId) (g : MonitorRuntime → Timer)
    (e : MonitorConfig → MonitorRuntime → Transition) :
    (s.takeExpiry m g e).notice = s.notice := by
  simp only [State.takeExpiry]; split <;> simp
@[simp] theorem State.takeExpiry_counters (s : State) (m : MonitorId) (g : MonitorRuntime → Timer)
    (e : MonitorConfig → MonitorRuntime → Transition) :
    (s.takeExpiry m g e).counters = s.counters := by
  simp only [State.takeExpiry]; split <;> simp
@[simp] theorem State.takeExpiry_time (s : State) (m : MonitorId) (g : MonitorRuntime → Timer)
    (e : MonitorConfig → MonitorRuntime → Transition) :
    (s.takeExpiry m g e).time = s.time := by
  simp only [State.takeExpiry]; split <;> simp
@[simp] theorem State.takeExpiry_agent (s : State) (m : MonitorId) (g : MonitorRuntime → Timer)
    (e : MonitorConfig → MonitorRuntime → Transition) :
    (s.takeExpiry m g e).agent = s.agent := by
  simp only [State.takeExpiry]; split <;> simp
@[simp] theorem State.takeExpiry_freeUses (s : State) (m : MonitorId) (g : MonitorRuntime → Timer)
    (e : MonitorConfig → MonitorRuntime → Transition) :
    (s.takeExpiry m g e).freeUses = s.freeUses := by
  simp only [State.takeExpiry]; split <;> simp

@[simp] theorem State.holdResponse_pending (s : State) (p : Port) (f : Originated) :
    (s.holdResponse p f).pending = s.pending := by
  simp only [State.holdResponse]; split <;> rfl
@[simp] theorem State.holdResponse_link (s : State) (p : Port) (f : Originated) :
    (s.holdResponse p f).link = s.link := by
  simp only [State.holdResponse]; split <;> rfl
@[simp] theorem State.holdResponse_receivers (s : State) (p : Port) (f : Originated) :
    (s.holdResponse p f).receivers = s.receivers := by
  simp only [State.holdResponse]; split <;> rfl
@[simp] theorem State.holdResponse_transmitters (s : State) (p : Port) (f : Originated) :
    (s.holdResponse p f).transmitters = s.transmitters := by
  simp only [State.holdResponse]; split <;> rfl
@[simp] theorem State.holdResponse_lineOut (s : State) (p : Port) (f : Originated) :
    (s.holdResponse p f).lineOut = s.lineOut := by
  simp only [State.holdResponse]; split <;> rfl
@[simp] theorem State.holdResponse_store (s : State) (p : Port) (f : Originated) :
    (s.holdResponse p f).store = s.store := by
  simp only [State.holdResponse]; split <;> rfl
@[simp] theorem State.holdResponse_runCount (s : State) (p : Port) (f : Originated) :
    (s.holdResponse p f).runCount = s.runCount := by
  simp only [State.holdResponse]; split <;> rfl
@[simp] theorem State.holdResponse_engine (s : State) (p : Port) (f : Originated) :
    (s.holdResponse p f).engine = s.engine := by
  simp only [State.holdResponse]; split <;> rfl
@[simp] theorem State.holdResponse_tables (s : State) (p : Port) (f : Originated) :
    (s.holdResponse p f).tables = s.tables := by
  simp only [State.holdResponse]; split <;> rfl
@[simp] theorem State.holdResponse_monitors (s : State) (p : Port) (f : Originated) :
    (s.holdResponse p f).monitors = s.monitors := by
  simp only [State.holdResponse]; split <;> rfl
@[simp] theorem State.holdResponse_classes (s : State) (p : Port) (f : Originated) :
    (s.holdResponse p f).classes = s.classes := by
  simp only [State.holdResponse]; split <;> rfl
@[simp] theorem State.holdResponse_events (s : State) (p : Port) (f : Originated) :
    (s.holdResponse p f).events = s.events := by
  simp only [State.holdResponse]; split <;> rfl
@[simp] theorem State.holdResponse_notice (s : State) (p : Port) (f : Originated) :
    (s.holdResponse p f).notice = s.notice := by
  simp only [State.holdResponse]; split <;> rfl
@[simp] theorem State.holdResponse_counters (s : State) (p : Port) (f : Originated) :
    (s.holdResponse p f).counters = s.counters := by
  simp only [State.holdResponse]; split <;> rfl
@[simp] theorem State.holdResponse_time (s : State) (p : Port) (f : Originated) :
    (s.holdResponse p f).time = s.time := by
  simp only [State.holdResponse]; split <;> rfl
@[simp] theorem State.holdResponse_agent_ownAddress (s : State) (p : Port) (f : Originated) :
    (s.holdResponse p f).agent.ownAddress = s.agent.ownAddress := by
  simp only [State.holdResponse]; split <;> rfl
@[simp] theorem State.holdResponse_agent_portSet (s : State) (p : Port) (f : Originated) :
    (s.holdResponse p f).agent.portSet = s.agent.portSet := by
  simp only [State.holdResponse]; split <;> rfl
@[simp] theorem State.holdResponse_agent_sources (s : State) (p : Port) (f : Originated) :
    (s.holdResponse p f).agent.sources = s.agent.sources := by
  simp only [State.holdResponse]; split <;> rfl
@[simp] theorem State.holdResponse_agent_inbox (s : State) (p : Port) (f : Originated) :
    (s.holdResponse p f).agent.inbox = s.agent.inbox := by
  simp only [State.holdResponse]; split <;> rfl
@[simp] theorem State.holdResponse_agent_requests (s : State) (p : Port) (f : Originated) :
    (s.holdResponse p f).agent.requests = s.agent.requests := by
  simp only [State.holdResponse]; split <;> rfl
@[simp] theorem State.holdResponse_agent_pendingResults (s : State) (p : Port) (f : Originated) :
    (s.holdResponse p f).agent.pendingResults = s.agent.pendingResults := by
  simp only [State.holdResponse]; split <;> rfl
@[simp] theorem State.holdResponse_agent_cache (s : State) (p : Port) (f : Originated) :
    (s.holdResponse p f).agent.cache = s.agent.cache := by
  simp only [State.holdResponse]; split <;> rfl
@[simp] theorem State.holdResponse_freeUses (s : State) (p : Port) (f : Originated) :
    (s.holdResponse p f).freeUses = s.freeUses := by
  simp only [State.holdResponse]; split <;> rfl

@[simp] theorem State.respond_pending (s : State) (p : Port) (a : Byte) (q t : Half) (c : Byte) (u : Status) (b : List Byte) :
    (s.respond p a q t c u b).pending = s.pending := by
  simp [State.respond]
@[simp] theorem State.respond_link (s : State) (p : Port) (a : Byte) (q t : Half) (c : Byte) (u : Status) (b : List Byte) :
    (s.respond p a q t c u b).link = s.link := by
  simp [State.respond]
@[simp] theorem State.respond_receivers (s : State) (p : Port) (a : Byte) (q t : Half) (c : Byte) (u : Status) (b : List Byte) :
    (s.respond p a q t c u b).receivers = s.receivers := by
  simp [State.respond]
@[simp] theorem State.respond_transmitters (s : State) (p : Port) (a : Byte) (q t : Half) (c : Byte) (u : Status) (b : List Byte) :
    (s.respond p a q t c u b).transmitters = s.transmitters := by
  simp [State.respond]
@[simp] theorem State.respond_lineOut (s : State) (p : Port) (a : Byte) (q t : Half) (c : Byte) (u : Status) (b : List Byte) :
    (s.respond p a q t c u b).lineOut = s.lineOut := by
  simp [State.respond]
@[simp] theorem State.respond_store (s : State) (p : Port) (a : Byte) (q t : Half) (c : Byte) (u : Status) (b : List Byte) :
    (s.respond p a q t c u b).store = s.store := by
  simp [State.respond]
@[simp] theorem State.respond_runCount (s : State) (p : Port) (a : Byte) (q t : Half) (c : Byte) (u : Status) (b : List Byte) :
    (s.respond p a q t c u b).runCount = s.runCount := by
  simp [State.respond]
@[simp] theorem State.respond_engine (s : State) (p : Port) (a : Byte) (q t : Half) (c : Byte) (u : Status) (b : List Byte) :
    (s.respond p a q t c u b).engine = s.engine := by
  simp [State.respond]
@[simp] theorem State.respond_tables (s : State) (p : Port) (a : Byte) (q t : Half) (c : Byte) (u : Status) (b : List Byte) :
    (s.respond p a q t c u b).tables = s.tables := by
  simp [State.respond]
@[simp] theorem State.respond_monitors (s : State) (p : Port) (a : Byte) (q t : Half) (c : Byte) (u : Status) (b : List Byte) :
    (s.respond p a q t c u b).monitors = s.monitors := by
  simp [State.respond]
@[simp] theorem State.respond_classes (s : State) (p : Port) (a : Byte) (q t : Half) (c : Byte) (u : Status) (b : List Byte) :
    (s.respond p a q t c u b).classes = s.classes := by
  simp [State.respond]
@[simp] theorem State.respond_events (s : State) (p : Port) (a : Byte) (q t : Half) (c : Byte) (u : Status) (b : List Byte) :
    (s.respond p a q t c u b).events = s.events := by
  simp [State.respond]
@[simp] theorem State.respond_notice (s : State) (p : Port) (a : Byte) (q t : Half) (c : Byte) (u : Status) (b : List Byte) :
    (s.respond p a q t c u b).notice = s.notice := by
  simp [State.respond]
@[simp] theorem State.respond_counters (s : State) (p : Port) (a : Byte) (q t : Half) (c : Byte) (u : Status) (b : List Byte) :
    (s.respond p a q t c u b).counters = s.counters := by
  simp [State.respond]
@[simp] theorem State.respond_time (s : State) (p : Port) (a : Byte) (q t : Half) (c : Byte) (u : Status) (b : List Byte) :
    (s.respond p a q t c u b).time = s.time := by
  simp [State.respond]
@[simp] theorem State.respond_agent_ownAddress (s : State) (p : Port) (a : Byte) (q t : Half) (c : Byte) (u : Status) (b : List Byte) :
    (s.respond p a q t c u b).agent.ownAddress = s.agent.ownAddress := by
  simp [State.respond]
@[simp] theorem State.respond_agent_portSet (s : State) (p : Port) (a : Byte) (q t : Half) (c : Byte) (u : Status) (b : List Byte) :
    (s.respond p a q t c u b).agent.portSet = s.agent.portSet := by
  simp [State.respond]
@[simp] theorem State.respond_agent_sources (s : State) (p : Port) (a : Byte) (q t : Half) (c : Byte) (u : Status) (b : List Byte) :
    (s.respond p a q t c u b).agent.sources = s.agent.sources := by
  simp [State.respond]
@[simp] theorem State.respond_agent_inbox (s : State) (p : Port) (a : Byte) (q t : Half) (c : Byte) (u : Status) (b : List Byte) :
    (s.respond p a q t c u b).agent.inbox = s.agent.inbox := by
  simp [State.respond]
@[simp] theorem State.respond_agent_requests (s : State) (p : Port) (a : Byte) (q t : Half) (c : Byte) (u : Status) (b : List Byte) :
    (s.respond p a q t c u b).agent.requests = s.agent.requests := by
  simp [State.respond]
@[simp] theorem State.respond_agent_pendingResults (s : State) (p : Port) (a : Byte) (q t : Half) (c : Byte) (u : Status) (b : List Byte) :
    (s.respond p a q t c u b).agent.pendingResults = s.agent.pendingResults := by
  simp [State.respond]
@[simp] theorem State.respond_freeUses (s : State) (p : Port) (a : Byte) (q t : Half) (c : Byte) (u : Status) (b : List Byte) :
    (s.respond p a q t c u b).freeUses = s.freeUses := by
  simp [State.respond]

@[simp] theorem State.raiseDiscard_pending (s : State) (p : Port) (c : Byte) (k : PortCounter) :
    (s.raiseDiscard p c k).pending = s.pending := rfl
@[simp] theorem State.raiseDiscard_link (s : State) (p : Port) (c : Byte) (k : PortCounter) :
    (s.raiseDiscard p c k).link = s.link := rfl
@[simp] theorem State.raiseDiscard_receivers (s : State) (p : Port) (c : Byte) (k : PortCounter) :
    (s.raiseDiscard p c k).receivers = s.receivers := rfl
@[simp] theorem State.raiseDiscard_transmitters (s : State) (p : Port) (c : Byte) (k : PortCounter) :
    (s.raiseDiscard p c k).transmitters = s.transmitters := rfl
@[simp] theorem State.raiseDiscard_lineOut (s : State) (p : Port) (c : Byte) (k : PortCounter) :
    (s.raiseDiscard p c k).lineOut = s.lineOut := rfl
@[simp] theorem State.raiseDiscard_store (s : State) (p : Port) (c : Byte) (k : PortCounter) :
    (s.raiseDiscard p c k).store = s.store := rfl
@[simp] theorem State.raiseDiscard_runCount (s : State) (p : Port) (c : Byte) (k : PortCounter) :
    (s.raiseDiscard p c k).runCount = s.runCount := rfl
@[simp] theorem State.raiseDiscard_engine (s : State) (p : Port) (c : Byte) (k : PortCounter) :
    (s.raiseDiscard p c k).engine = s.engine := rfl
@[simp] theorem State.raiseDiscard_tables (s : State) (p : Port) (c : Byte) (k : PortCounter) :
    (s.raiseDiscard p c k).tables = s.tables := rfl
@[simp] theorem State.raiseDiscard_monitors (s : State) (p : Port) (c : Byte) (k : PortCounter) :
    (s.raiseDiscard p c k).monitors = s.monitors := rfl
@[simp] theorem State.raiseDiscard_classes (s : State) (p : Port) (c : Byte) (k : PortCounter) :
    (s.raiseDiscard p c k).classes = s.classes := rfl
@[simp] theorem State.raiseDiscard_notice (s : State) (p : Port) (c : Byte) (k : PortCounter) :
    (s.raiseDiscard p c k).notice = s.notice := rfl
@[simp] theorem State.raiseDiscard_counters (s : State) (p : Port) (c : Byte) (k : PortCounter) :
    (s.raiseDiscard p c k).counters = s.counters := rfl
@[simp] theorem State.raiseDiscard_time (s : State) (p : Port) (c : Byte) (k : PortCounter) :
    (s.raiseDiscard p c k).time = s.time := rfl
@[simp] theorem State.raiseDiscard_agent (s : State) (p : Port) (c : Byte) (k : PortCounter) :
    (s.raiseDiscard p c k).agent = s.agent := rfl
@[simp] theorem State.raiseDiscard_freeUses (s : State) (p : Port) (c : Byte) (k : PortCounter) :
    (s.raiseDiscard p c k).freeUses = s.freeUses := rfl

@[simp] theorem State.endExecution_pending (s : State) (r : Request) : (s.endExecution r).pending = s.pending := rfl
@[simp] theorem State.endExecution_link (s : State) (r : Request) : (s.endExecution r).link = s.link := rfl
@[simp] theorem State.endExecution_receivers (s : State) (r : Request) :
    (s.endExecution r).receivers = s.receivers := rfl
@[simp] theorem State.endExecution_transmitters (s : State) (r : Request) :
    (s.endExecution r).transmitters = s.transmitters := rfl
@[simp] theorem State.endExecution_lineOut (s : State) (r : Request) : (s.endExecution r).lineOut = s.lineOut := rfl
@[simp] theorem State.endExecution_store_bytes (s : State) (r : Request) :
    (s.endExecution r).store.bytes = s.store.bytes := rfl
@[simp] theorem State.endExecution_store_ready (s : State) (r : Request) :
    (s.endExecution r).store.ready = s.store.ready := rfl
@[simp] theorem State.endExecution_store_forward (s : State) (r : Request) :
    (s.endExecution r).store.forward = s.store.forward := rfl
@[simp] theorem State.endExecution_store_purges (s : State) (r : Request) :
    (s.endExecution r).store.purges = s.store.purges := rfl
@[simp] theorem State.endExecution_runCount (s : State) (r : Request) :
    (s.endExecution r).runCount = s.runCount := rfl
@[simp] theorem State.endExecution_engine (s : State) (r : Request) : (s.endExecution r).engine = s.engine := rfl
@[simp] theorem State.endExecution_tables (s : State) (r : Request) : (s.endExecution r).tables = s.tables := rfl
@[simp] theorem State.endExecution_monitors (s : State) (r : Request) :
    (s.endExecution r).monitors = s.monitors := rfl
@[simp] theorem State.endExecution_classes (s : State) (r : Request) : (s.endExecution r).classes = s.classes := rfl
@[simp] theorem State.endExecution_events (s : State) (r : Request) : (s.endExecution r).events = s.events := rfl
@[simp] theorem State.endExecution_notice (s : State) (r : Request) : (s.endExecution r).notice = s.notice := rfl
@[simp] theorem State.endExecution_time (s : State) (r : Request) : (s.endExecution r).time = s.time := rfl
@[simp] theorem State.endExecution_agent (s : State) (r : Request) : (s.endExecution r).agent = s.agent := rfl
@[simp] theorem State.endExecution_freeUses (s : State) (r : Request) :
    (s.endExecution r).freeUses = s.freeUses := rfl

@[simp] theorem State.dropRequest_pending (s : State) (r : Request) (c : MgmtCounter) :
    (s.dropRequest r c).pending = s.pending := rfl
@[simp] theorem State.dropRequest_link (s : State) (r : Request) (c : MgmtCounter) :
    (s.dropRequest r c).link = s.link := rfl
@[simp] theorem State.dropRequest_receivers (s : State) (r : Request) (c : MgmtCounter) :
    (s.dropRequest r c).receivers = s.receivers := rfl
@[simp] theorem State.dropRequest_transmitters (s : State) (r : Request) (c : MgmtCounter) :
    (s.dropRequest r c).transmitters = s.transmitters := rfl
@[simp] theorem State.dropRequest_lineOut (s : State) (r : Request) (c : MgmtCounter) :
    (s.dropRequest r c).lineOut = s.lineOut := rfl
@[simp] theorem State.dropRequest_store_bytes (s : State) (r : Request) (c : MgmtCounter) :
    (s.dropRequest r c).store.bytes = s.store.bytes := rfl
@[simp] theorem State.dropRequest_store_ready (s : State) (r : Request) (c : MgmtCounter) :
    (s.dropRequest r c).store.ready = s.store.ready := rfl
@[simp] theorem State.dropRequest_store_forward (s : State) (r : Request) (c : MgmtCounter) :
    (s.dropRequest r c).store.forward = s.store.forward := rfl
@[simp] theorem State.dropRequest_store_purges (s : State) (r : Request) (c : MgmtCounter) :
    (s.dropRequest r c).store.purges = s.store.purges := rfl
@[simp] theorem State.dropRequest_runCount (s : State) (r : Request) (c : MgmtCounter) :
    (s.dropRequest r c).runCount = s.runCount := rfl
@[simp] theorem State.dropRequest_engine (s : State) (r : Request) (c : MgmtCounter) :
    (s.dropRequest r c).engine = s.engine := rfl
@[simp] theorem State.dropRequest_tables (s : State) (r : Request) (c : MgmtCounter) :
    (s.dropRequest r c).tables = s.tables := rfl
@[simp] theorem State.dropRequest_monitors (s : State) (r : Request) (c : MgmtCounter) :
    (s.dropRequest r c).monitors = s.monitors := rfl
@[simp] theorem State.dropRequest_classes (s : State) (r : Request) (c : MgmtCounter) :
    (s.dropRequest r c).classes = s.classes := rfl
@[simp] theorem State.dropRequest_events (s : State) (r : Request) (c : MgmtCounter) :
    (s.dropRequest r c).events = s.events := rfl
@[simp] theorem State.dropRequest_notice (s : State) (r : Request) (c : MgmtCounter) :
    (s.dropRequest r c).notice = s.notice := rfl
@[simp] theorem State.dropRequest_time (s : State) (r : Request) (c : MgmtCounter) :
    (s.dropRequest r c).time = s.time := rfl
@[simp] theorem State.dropRequest_agent (s : State) (r : Request) (c : MgmtCounter) :
    (s.dropRequest r c).agent = s.agent := rfl
@[simp] theorem State.dropRequest_freeUses (s : State) (r : Request) (c : MgmtCounter) :
    (s.dropRequest r c).freeUses = s.freeUses := rfl

@[simp] theorem State.block_pending (s : State) (d : Screened) : (s.block d).pending = s.pending := rfl
@[simp] theorem State.block_link (s : State) (d : Screened) : (s.block d).link = s.link := rfl
@[simp] theorem State.block_receivers (s : State) (d : Screened) : (s.block d).receivers = s.receivers := rfl
@[simp] theorem State.block_transmitters (s : State) (d : Screened) : (s.block d).transmitters = s.transmitters := rfl
@[simp] theorem State.block_lineOut (s : State) (d : Screened) : (s.block d).lineOut = s.lineOut := rfl
@[simp] theorem State.block_store_bytes (s : State) (d : Screened) :
    (s.block d).store.bytes = s.store.bytes := rfl
@[simp] theorem State.block_store_ready (s : State) (d : Screened) :
    (s.block d).store.ready = s.store.ready := rfl
@[simp] theorem State.block_store_forward (s : State) (d : Screened) :
    (s.block d).store.forward = s.store.forward := rfl
@[simp] theorem State.block_store_purges (s : State) (d : Screened) :
    (s.block d).store.purges = s.store.purges := rfl
@[simp] theorem State.block_runCount (s : State) (d : Screened) : (s.block d).runCount = s.runCount := rfl
@[simp] theorem State.block_engine (s : State) (d : Screened) : (s.block d).engine = s.engine := rfl
@[simp] theorem State.block_tables (s : State) (d : Screened) : (s.block d).tables = s.tables := rfl
@[simp] theorem State.block_monitors (s : State) (d : Screened) : (s.block d).monitors = s.monitors := rfl
@[simp] theorem State.block_classes (s : State) (d : Screened) : (s.block d).classes = s.classes := rfl
@[simp] theorem State.block_events (s : State) (d : Screened) : (s.block d).events = s.events := rfl
@[simp] theorem State.block_notice (s : State) (d : Screened) : (s.block d).notice = s.notice := rfl
@[simp] theorem State.block_time (s : State) (d : Screened) : (s.block d).time = s.time := rfl
@[simp] theorem State.block_agent (s : State) (d : Screened) : (s.block d).agent = s.agent := rfl
@[simp] theorem State.block_freeUses (s : State) (d : Screened) : (s.block d).freeUses = s.freeUses := rfl

@[simp] theorem State.markFrame_pending (s : State) (d : Descriptor) (b : Byte) :
    (s.markFrame d b).pending = s.pending := rfl
@[simp] theorem State.markFrame_link (s : State) (d : Descriptor) (b : Byte) : (s.markFrame d b).link = s.link := rfl
@[simp] theorem State.markFrame_receivers (s : State) (d : Descriptor) (b : Byte) :
    (s.markFrame d b).receivers = s.receivers := rfl
@[simp] theorem State.markFrame_transmitters (s : State) (d : Descriptor) (b : Byte) :
    (s.markFrame d b).transmitters = s.transmitters := rfl
@[simp] theorem State.markFrame_lineOut (s : State) (d : Descriptor) (b : Byte) :
    (s.markFrame d b).lineOut = s.lineOut := rfl
@[simp] theorem State.markFrame_store_free (s : State) (d : Descriptor) (b : Byte) :
    (s.markFrame d b).store.free = s.store.free := rfl
@[simp] theorem State.markFrame_store_share (s : State) (d : Descriptor) (b : Byte) :
    (s.markFrame d b).store.share = s.store.share := rfl
@[simp] theorem State.markFrame_store_ready (s : State) (d : Descriptor) (b : Byte) :
    (s.markFrame d b).store.ready = s.store.ready := rfl
@[simp] theorem State.markFrame_store_forward (s : State) (d : Descriptor) (b : Byte) :
    (s.markFrame d b).store.forward = s.store.forward := rfl
@[simp] theorem State.markFrame_store_purges (s : State) (d : Descriptor) (b : Byte) :
    (s.markFrame d b).store.purges = s.store.purges := rfl
@[simp] theorem State.markFrame_runCount (s : State) (d : Descriptor) (b : Byte) :
    (s.markFrame d b).runCount = s.runCount := rfl
@[simp] theorem State.markFrame_engine (s : State) (d : Descriptor) (b : Byte) :
    (s.markFrame d b).engine = s.engine := rfl
@[simp] theorem State.markFrame_tables (s : State) (d : Descriptor) (b : Byte) :
    (s.markFrame d b).tables = s.tables := rfl
@[simp] theorem State.markFrame_monitors (s : State) (d : Descriptor) (b : Byte) :
    (s.markFrame d b).monitors = s.monitors := rfl
@[simp] theorem State.markFrame_classes (s : State) (d : Descriptor) (b : Byte) :
    (s.markFrame d b).classes = s.classes := rfl
@[simp] theorem State.markFrame_events (s : State) (d : Descriptor) (b : Byte) :
    (s.markFrame d b).events = s.events := rfl
@[simp] theorem State.markFrame_notice (s : State) (d : Descriptor) (b : Byte) :
    (s.markFrame d b).notice = s.notice := rfl
@[simp] theorem State.markFrame_counters (s : State) (d : Descriptor) (b : Byte) :
    (s.markFrame d b).counters = s.counters := rfl
@[simp] theorem State.markFrame_time (s : State) (d : Descriptor) (b : Byte) : (s.markFrame d b).time = s.time := rfl
@[simp] theorem State.markFrame_agent (s : State) (d : Descriptor) (b : Byte) :
    (s.markFrame d b).agent = s.agent := rfl
@[simp] theorem State.markFrame_freeUses (s : State) (d : Descriptor) (b : Byte) :
    (s.markFrame d b).freeUses = s.freeUses := rfl

@[simp] theorem State.offer_pending (s : State) (d : Screened) :
    (s.offer d).pending = s.pending := by
  simp only [State.offer]; (repeat' split) <;> rfl
@[simp] theorem State.offer_link (s : State) (d : Screened) :
    (s.offer d).link = s.link := by
  simp only [State.offer]; (repeat' split) <;> rfl
@[simp] theorem State.offer_receivers (s : State) (d : Screened) :
    (s.offer d).receivers = s.receivers := by
  simp only [State.offer]; (repeat' split) <;> rfl
@[simp] theorem State.offer_transmitters (s : State) (d : Screened) :
    (s.offer d).transmitters = s.transmitters := by
  simp only [State.offer]; (repeat' split) <;> rfl
@[simp] theorem State.offer_lineOut (s : State) (d : Screened) :
    (s.offer d).lineOut = s.lineOut := by
  simp only [State.offer]; (repeat' split) <;> rfl
@[simp] theorem State.offer_store_bytes (s : State) (d : Screened) :
    (s.offer d).store.bytes = s.store.bytes := by
  simp only [State.offer]; (repeat' split) <;> rfl
@[simp] theorem State.offer_store_ready (s : State) (d : Screened) :
    (s.offer d).store.ready = s.store.ready := by
  simp only [State.offer]; (repeat' split) <;> rfl
@[simp] theorem State.offer_store_purges (s : State) (d : Screened) :
    (s.offer d).store.purges = s.store.purges := by
  simp only [State.offer]; (repeat' split) <;> rfl
@[simp] theorem State.offer_runCount (s : State) (d : Screened) :
    (s.offer d).runCount = s.runCount := by
  simp only [State.offer]; (repeat' split) <;> rfl
@[simp] theorem State.offer_engine (s : State) (d : Screened) :
    (s.offer d).engine = s.engine := by
  simp only [State.offer]; (repeat' split) <;> rfl
@[simp] theorem State.offer_tables (s : State) (d : Screened) :
    (s.offer d).tables = s.tables := by
  simp only [State.offer]; (repeat' split) <;> rfl
@[simp] theorem State.offer_monitors (s : State) (d : Screened) :
    (s.offer d).monitors = s.monitors := by
  simp only [State.offer]; (repeat' split) <;> rfl
@[simp] theorem State.offer_classes (s : State) (d : Screened) :
    (s.offer d).classes = s.classes := by
  simp only [State.offer]; (repeat' split) <;> rfl
@[simp] theorem State.offer_notice (s : State) (d : Screened) :
    (s.offer d).notice = s.notice := by
  simp only [State.offer]; (repeat' split) <;> rfl
@[simp] theorem State.offer_time (s : State) (d : Screened) :
    (s.offer d).time = s.time := by
  simp only [State.offer]; (repeat' split) <;> rfl
@[simp] theorem State.offer_agent (s : State) (d : Screened) :
    (s.offer d).agent = s.agent := by
  simp only [State.offer]; (repeat' split) <;> rfl
@[simp] theorem State.offer_freeUses (s : State) (d : Screened) :
    (s.offer d).freeUses = s.freeUses := by
  simp only [State.offer]; (repeat' split) <;> rfl

@[simp] theorem State.decideFrame_pending (s : State) (d : Screened) :
    (s.decideFrame d).pending = s.pending := by
  simp only [State.decideFrame]; (repeat' split) <;> simp
@[simp] theorem State.decideFrame_link (s : State) (d : Screened) :
    (s.decideFrame d).link = s.link := by
  simp only [State.decideFrame]; (repeat' split) <;> simp
@[simp] theorem State.decideFrame_receivers (s : State) (d : Screened) :
    (s.decideFrame d).receivers = s.receivers := by
  simp only [State.decideFrame]; (repeat' split) <;> simp
@[simp] theorem State.decideFrame_transmitters (s : State) (d : Screened) :
    (s.decideFrame d).transmitters = s.transmitters := by
  simp only [State.decideFrame]; (repeat' split) <;> simp
@[simp] theorem State.decideFrame_lineOut (s : State) (d : Screened) :
    (s.decideFrame d).lineOut = s.lineOut := by
  simp only [State.decideFrame]; (repeat' split) <;> simp
@[simp] theorem State.decideFrame_store_ready (s : State) (d : Screened) :
    (s.decideFrame d).store.ready = s.store.ready := by
  simp only [State.decideFrame]; (repeat' split) <;> simp
@[simp] theorem State.decideFrame_store_purges (s : State) (d : Screened) :
    (s.decideFrame d).store.purges = s.store.purges := by
  simp only [State.decideFrame]; (repeat' split) <;> simp
@[simp] theorem State.decideFrame_runCount (s : State) (d : Screened) :
    (s.decideFrame d).runCount = s.runCount := by
  simp only [State.decideFrame]; (repeat' split) <;> simp
@[simp] theorem State.decideFrame_engine (s : State) (d : Screened) :
    (s.decideFrame d).engine = s.engine := by
  simp only [State.decideFrame]; (repeat' split) <;> simp
@[simp] theorem State.decideFrame_tables (s : State) (d : Screened) :
    (s.decideFrame d).tables = s.tables := by
  simp only [State.decideFrame]; (repeat' split) <;> simp
@[simp] theorem State.decideFrame_monitors (s : State) (d : Screened) :
    (s.decideFrame d).monitors = s.monitors := by
  simp only [State.decideFrame]; (repeat' split) <;> simp
@[simp] theorem State.decideFrame_classes (s : State) (d : Screened) :
    (s.decideFrame d).classes = s.classes := by
  simp only [State.decideFrame]; (repeat' split) <;> simp
@[simp] theorem State.decideFrame_notice (s : State) (d : Screened) :
    (s.decideFrame d).notice = s.notice := by
  simp only [State.decideFrame]; (repeat' split) <;> simp
@[simp] theorem State.decideFrame_time (s : State) (d : Screened) :
    (s.decideFrame d).time = s.time := by
  simp only [State.decideFrame]; (repeat' split) <;> simp
@[simp] theorem State.decideFrame_agent (s : State) (d : Screened) :
    (s.decideFrame d).agent = s.agent := by
  simp only [State.decideFrame]; (repeat' split) <;> simp
@[simp] theorem State.decideFrame_freeUses (s : State) (d : Screened) :
    (s.decideFrame d).freeUses = s.freeUses := by
  simp only [State.decideFrame]; (repeat' split) <;> simp

@[simp] theorem State.reportFault_pending (s : State) (p : Port) (e : WalkEnd) :
    (s.reportFault p e).pending = s.pending := by
  cases e <;> rfl
@[simp] theorem State.reportFault_link (s : State) (p : Port) (e : WalkEnd) :
    (s.reportFault p e).link = s.link := by
  cases e <;> rfl
@[simp] theorem State.reportFault_receivers (s : State) (p : Port) (e : WalkEnd) :
    (s.reportFault p e).receivers = s.receivers := by
  cases e <;> rfl
@[simp] theorem State.reportFault_transmitters (s : State) (p : Port) (e : WalkEnd) :
    (s.reportFault p e).transmitters = s.transmitters := by
  cases e <;> rfl
@[simp] theorem State.reportFault_lineOut (s : State) (p : Port) (e : WalkEnd) :
    (s.reportFault p e).lineOut = s.lineOut := by
  cases e <;> rfl
@[simp] theorem State.reportFault_store (s : State) (p : Port) (e : WalkEnd) :
    (s.reportFault p e).store = s.store := by
  cases e <;> rfl
@[simp] theorem State.reportFault_runCount (s : State) (p : Port) (e : WalkEnd) :
    (s.reportFault p e).runCount = s.runCount := by
  cases e <;> rfl
@[simp] theorem State.reportFault_engine (s : State) (p : Port) (e : WalkEnd) :
    (s.reportFault p e).engine = s.engine := by
  cases e <;> rfl
@[simp] theorem State.reportFault_tables (s : State) (p : Port) (e : WalkEnd) :
    (s.reportFault p e).tables = s.tables := by
  cases e <;> rfl
@[simp] theorem State.reportFault_monitors (s : State) (p : Port) (e : WalkEnd) :
    (s.reportFault p e).monitors = s.monitors := by
  cases e <;> rfl
@[simp] theorem State.reportFault_classes (s : State) (p : Port) (e : WalkEnd) :
    (s.reportFault p e).classes = s.classes := by
  cases e <;> rfl
@[simp] theorem State.reportFault_notice (s : State) (p : Port) (e : WalkEnd) :
    (s.reportFault p e).notice = s.notice := by
  cases e <;> rfl
@[simp] theorem State.reportFault_time (s : State) (p : Port) (e : WalkEnd) :
    (s.reportFault p e).time = s.time := by
  cases e <;> rfl
@[simp] theorem State.reportFault_agent (s : State) (p : Port) (e : WalkEnd) :
    (s.reportFault p e).agent = s.agent := by
  cases e <;> rfl
@[simp] theorem State.reportFault_freeUses (s : State) (p : Port) (e : WalkEnd) :
    (s.reportFault p e).freeUses = s.freeUses := by
  cases e <;> rfl

@[simp] theorem State.completeCommit_pending (s : State) (m : CommitMode) :
    (s.completeCommit m).pending = s.pending := rfl
@[simp] theorem State.completeCommit_link (s : State) (m : CommitMode) : (s.completeCommit m).link = s.link := rfl
@[simp] theorem State.completeCommit_receivers (s : State) (m : CommitMode) :
    (s.completeCommit m).receivers = s.receivers := rfl
@[simp] theorem State.completeCommit_transmitters (s : State) (m : CommitMode) :
    (s.completeCommit m).transmitters = s.transmitters := rfl
@[simp] theorem State.completeCommit_lineOut (s : State) (m : CommitMode) :
    (s.completeCommit m).lineOut = s.lineOut := rfl
@[simp] theorem State.completeCommit_store (s : State) (m : CommitMode) : (s.completeCommit m).store = s.store := rfl
@[simp] theorem State.completeCommit_runCount (s : State) (m : CommitMode) :
    (s.completeCommit m).runCount = s.runCount := rfl
@[simp] theorem State.completeCommit_engine (s : State) (m : CommitMode) :
    (s.completeCommit m).engine = s.engine := rfl
@[simp] theorem State.completeCommit_tables_banks (s : State) (m : CommitMode) :
    (s.completeCommit m).tables.banks = s.tables.banks := rfl
@[simp] theorem State.completeCommit_monitors (s : State) (m : CommitMode) :
    (s.completeCommit m).monitors = s.monitors := rfl
@[simp] theorem State.completeCommit_classes (s : State) (m : CommitMode) :
    (s.completeCommit m).classes = s.classes := rfl
@[simp] theorem State.completeCommit_notice (s : State) (m : CommitMode) :
    (s.completeCommit m).notice = s.notice := rfl
@[simp] theorem State.completeCommit_counters (s : State) (m : CommitMode) :
    (s.completeCommit m).counters = s.counters := rfl
@[simp] theorem State.completeCommit_time (s : State) (m : CommitMode) : (s.completeCommit m).time = s.time := rfl
@[simp] theorem State.completeCommit_agent (s : State) (m : CommitMode) : (s.completeCommit m).agent = s.agent := rfl
@[simp] theorem State.completeCommit_freeUses (s : State) (m : CommitMode) :
    (s.completeCommit m).freeUses = s.freeUses := rfl

@[simp] theorem State.switchBanks_pending (s : State) :
    s.switchBanks.pending = s.pending := by
  simp only [State.switchBanks]; (repeat' split) <;> simp
@[simp] theorem State.switchBanks_link (s : State) :
    s.switchBanks.link = s.link := by
  simp only [State.switchBanks]; (repeat' split) <;> simp
@[simp] theorem State.switchBanks_receivers (s : State) :
    s.switchBanks.receivers = s.receivers := by
  simp only [State.switchBanks]; (repeat' split) <;> simp
@[simp] theorem State.switchBanks_transmitters (s : State) :
    s.switchBanks.transmitters = s.transmitters := by
  simp only [State.switchBanks]; (repeat' split) <;> simp
@[simp] theorem State.switchBanks_lineOut (s : State) :
    s.switchBanks.lineOut = s.lineOut := by
  simp only [State.switchBanks]; (repeat' split) <;> simp
@[simp] theorem State.switchBanks_store (s : State) :
    s.switchBanks.store = s.store := by
  simp only [State.switchBanks]; (repeat' split) <;> simp
@[simp] theorem State.switchBanks_runCount (s : State) :
    s.switchBanks.runCount = s.runCount := by
  simp only [State.switchBanks]; (repeat' split) <;> simp
@[simp] theorem State.switchBanks_engine_phase (s : State) :
    s.switchBanks.engine.phase = s.engine.phase := by
  simp only [State.switchBanks]; (repeat' split) <;> simp
@[simp] theorem State.switchBanks_engine_lastServed (s : State) :
    s.switchBanks.engine.lastServed = s.engine.lastServed := by
  simp only [State.switchBanks]; (repeat' split) <;> simp
@[simp] theorem State.switchBanks_engine_switchPosted (s : State) :
    s.switchBanks.engine.switchPosted = s.engine.switchPosted := by
  simp only [State.switchBanks]; (repeat' split) <;> simp
@[simp] theorem State.switchBanks_tables_banks (s : State) :
    s.switchBanks.tables.banks = s.tables.banks := by
  simp only [State.switchBanks]; (repeat' split) <;> simp
@[simp] theorem State.switchBanks_monitors (s : State) :
    s.switchBanks.monitors = s.monitors := by
  simp only [State.switchBanks]; (repeat' split) <;> simp
@[simp] theorem State.switchBanks_classes (s : State) :
    s.switchBanks.classes = s.classes := by
  simp only [State.switchBanks]; (repeat' split) <;> simp
@[simp] theorem State.switchBanks_notice (s : State) :
    s.switchBanks.notice = s.notice := by
  simp only [State.switchBanks]; (repeat' split) <;> simp
@[simp] theorem State.switchBanks_counters (s : State) :
    s.switchBanks.counters = s.counters := by
  simp only [State.switchBanks]; (repeat' split) <;> simp
@[simp] theorem State.switchBanks_time (s : State) :
    s.switchBanks.time = s.time := by
  simp only [State.switchBanks]; (repeat' split) <;> simp
@[simp] theorem State.switchBanks_agent (s : State) :
    s.switchBanks.agent = s.agent := by
  simp only [State.switchBanks]; (repeat' split) <;> simp
@[simp] theorem State.switchBanks_freeUses (s : State) :
    s.switchBanks.freeUses = s.freeUses := by
  simp only [State.switchBanks]; (repeat' split) <;> simp

@[simp] theorem State.takeHead_pending (s : State) (p : Port) (l : List Descriptor) :
    (s.takeHead p l).pending = s.pending := rfl
@[simp] theorem State.takeHead_link (s : State) (p : Port) (l : List Descriptor) :
    (s.takeHead p l).link = s.link := rfl
@[simp] theorem State.takeHead_receivers (s : State) (p : Port) (l : List Descriptor) :
    (s.takeHead p l).receivers = s.receivers := rfl
@[simp] theorem State.takeHead_transmitters (s : State) (p : Port) (l : List Descriptor) :
    (s.takeHead p l).transmitters = s.transmitters := rfl
@[simp] theorem State.takeHead_lineOut (s : State) (p : Port) (l : List Descriptor) :
    (s.takeHead p l).lineOut = s.lineOut := rfl
@[simp] theorem State.takeHead_runCount (s : State) (p : Port) (l : List Descriptor) :
    (s.takeHead p l).runCount = s.runCount := rfl
@[simp] theorem State.takeHead_tables (s : State) (p : Port) (l : List Descriptor) :
    (s.takeHead p l).tables = s.tables := rfl
@[simp] theorem State.takeHead_engine_activeBank (s : State) (p : Port) (l : List Descriptor) :
    (s.takeHead p l).engine.activeBank = s.engine.activeBank := rfl
@[simp] theorem State.takeHead_engine_switchPosted (s : State) (p : Port) (l : List Descriptor) :
    (s.takeHead p l).engine.switchPosted = s.engine.switchPosted := rfl
@[simp] theorem State.takeHead_engine_switchPending (s : State) (p : Port) (l : List Descriptor) :
    (s.takeHead p l).engine.switchPending = s.engine.switchPending := rfl
@[simp] theorem State.takeHead_monitors (s : State) (p : Port) (l : List Descriptor) :
    (s.takeHead p l).monitors = s.monitors := rfl
@[simp] theorem State.takeHead_classes (s : State) (p : Port) (l : List Descriptor) :
    (s.takeHead p l).classes = s.classes := rfl
@[simp] theorem State.takeHead_events (s : State) (p : Port) (l : List Descriptor) :
    (s.takeHead p l).events = s.events := rfl
@[simp] theorem State.takeHead_notice (s : State) (p : Port) (l : List Descriptor) :
    (s.takeHead p l).notice = s.notice := rfl
@[simp] theorem State.takeHead_counters (s : State) (p : Port) (l : List Descriptor) :
    (s.takeHead p l).counters = s.counters := rfl
@[simp] theorem State.takeHead_time (s : State) (p : Port) (l : List Descriptor) :
    (s.takeHead p l).time = s.time := rfl
@[simp] theorem State.takeHead_agent (s : State) (p : Port) (l : List Descriptor) :
    (s.takeHead p l).agent = s.agent := rfl
@[simp] theorem State.takeHead_freeUses (s : State) (p : Port) (l : List Descriptor) :
    (s.takeHead p l).freeUses = s.freeUses := rfl

@[simp] theorem State.finishWalk_pending (s : State) (d : Descriptor) (w : Walk) (e : WalkEnd) :
    (s.finishWalk d w e).pending = s.pending := by
  simp [State.finishWalk]
@[simp] theorem State.finishWalk_link (s : State) (d : Descriptor) (w : Walk) (e : WalkEnd) :
    (s.finishWalk d w e).link = s.link := by
  simp [State.finishWalk]
@[simp] theorem State.finishWalk_receivers (s : State) (d : Descriptor) (w : Walk) (e : WalkEnd) :
    (s.finishWalk d w e).receivers = s.receivers := by
  simp [State.finishWalk]
@[simp] theorem State.finishWalk_transmitters (s : State) (d : Descriptor) (w : Walk) (e : WalkEnd) :
    (s.finishWalk d w e).transmitters = s.transmitters := by
  simp [State.finishWalk]
@[simp] theorem State.finishWalk_lineOut (s : State) (d : Descriptor) (w : Walk) (e : WalkEnd) :
    (s.finishWalk d w e).lineOut = s.lineOut := by
  simp [State.finishWalk]
@[simp] theorem State.finishWalk_store (s : State) (d : Descriptor) (w : Walk) (e : WalkEnd) :
    (s.finishWalk d w e).store = s.store := by
  simp [State.finishWalk]
@[simp] theorem State.finishWalk_runCount (s : State) (d : Descriptor) (w : Walk) (e : WalkEnd) :
    (s.finishWalk d w e).runCount = s.runCount := by
  simp [State.finishWalk]
@[simp] theorem State.finishWalk_tables (s : State) (d : Descriptor) (w : Walk) (e : WalkEnd) :
    (s.finishWalk d w e).tables = s.tables := by
  simp [State.finishWalk]
@[simp] theorem State.finishWalk_engine_activeBank (s : State) (d : Descriptor) (w : Walk) (e : WalkEnd) :
    (s.finishWalk d w e).engine.activeBank = s.engine.activeBank := by
  simp [State.finishWalk]
@[simp] theorem State.finishWalk_engine_lastServed (s : State) (d : Descriptor) (w : Walk) (e : WalkEnd) :
    (s.finishWalk d w e).engine.lastServed = s.engine.lastServed := by
  simp [State.finishWalk]
@[simp] theorem State.finishWalk_engine_switchPosted (s : State) (d : Descriptor) (w : Walk) (e : WalkEnd) :
    (s.finishWalk d w e).engine.switchPosted = s.engine.switchPosted := by
  simp [State.finishWalk]
@[simp] theorem State.finishWalk_engine_switchPending (s : State) (d : Descriptor) (w : Walk) (e : WalkEnd) :
    (s.finishWalk d w e).engine.switchPending = s.engine.switchPending := by
  simp [State.finishWalk]
@[simp] theorem State.finishWalk_monitors (s : State) (d : Descriptor) (w : Walk) (e : WalkEnd) :
    (s.finishWalk d w e).monitors = s.monitors := by
  simp [State.finishWalk]
@[simp] theorem State.finishWalk_classes (s : State) (d : Descriptor) (w : Walk) (e : WalkEnd) :
    (s.finishWalk d w e).classes = s.classes := by
  simp [State.finishWalk]
@[simp] theorem State.finishWalk_notice (s : State) (d : Descriptor) (w : Walk) (e : WalkEnd) :
    (s.finishWalk d w e).notice = s.notice := by
  simp [State.finishWalk]
@[simp] theorem State.finishWalk_time (s : State) (d : Descriptor) (w : Walk) (e : WalkEnd) :
    (s.finishWalk d w e).time = s.time := by
  simp [State.finishWalk]
@[simp] theorem State.finishWalk_agent (s : State) (d : Descriptor) (w : Walk) (e : WalkEnd) :
    (s.finishWalk d w e).agent = s.agent := by
  simp [State.finishWalk]
@[simp] theorem State.finishWalk_freeUses (s : State) (d : Descriptor) (w : Walk) (e : WalkEnd) :
    (s.finishWalk d w e).freeUses = s.freeUses := by
  simp [State.finishWalk]

@[simp] theorem State.takeRequest_pending (s : State) : s.takeRequest.pending = s.pending := rfl
@[simp] theorem State.takeRequest_link (s : State) : s.takeRequest.link = s.link := rfl
@[simp] theorem State.takeRequest_receivers (s : State) : s.takeRequest.receivers = s.receivers := rfl
@[simp] theorem State.takeRequest_transmitters (s : State) : s.takeRequest.transmitters = s.transmitters := rfl
@[simp] theorem State.takeRequest_lineOut (s : State) : s.takeRequest.lineOut = s.lineOut := rfl
@[simp] theorem State.takeRequest_store (s : State) : s.takeRequest.store = s.store := rfl
@[simp] theorem State.takeRequest_runCount (s : State) : s.takeRequest.runCount = s.runCount := rfl
@[simp] theorem State.takeRequest_tables (s : State) : s.takeRequest.tables = s.tables := rfl
@[simp] theorem State.takeRequest_engine_phase (s : State) : s.takeRequest.engine.phase = s.engine.phase := rfl
@[simp] theorem State.takeRequest_engine_activeBank (s : State) : s.takeRequest.engine.activeBank = s.engine.activeBank := rfl
@[simp] theorem State.takeRequest_engine_lastServed (s : State) : s.takeRequest.engine.lastServed = s.engine.lastServed := rfl
@[simp] theorem State.takeRequest_engine_switchPending (s : State) : s.takeRequest.engine.switchPending = s.engine.switchPending := rfl
@[simp] theorem State.takeRequest_monitors (s : State) : s.takeRequest.monitors = s.monitors := rfl
@[simp] theorem State.takeRequest_classes (s : State) : s.takeRequest.classes = s.classes := rfl
@[simp] theorem State.takeRequest_events (s : State) : s.takeRequest.events = s.events := rfl
@[simp] theorem State.takeRequest_notice (s : State) : s.takeRequest.notice = s.notice := rfl
@[simp] theorem State.takeRequest_counters (s : State) : s.takeRequest.counters = s.counters := rfl
@[simp] theorem State.takeRequest_time (s : State) : s.takeRequest.time = s.time := rfl
@[simp] theorem State.takeRequest_agent (s : State) : s.takeRequest.agent = s.agent := rfl
@[simp] theorem State.takeRequest_freeUses (s : State) : s.takeRequest.freeUses = s.freeUses := rfl
@[simp] theorem State.takeRequest_engine_switchPosted (s : State) : s.takeRequest.engine.switchPosted = false := rfl
@[simp] theorem State.takeRequest_engine_takeMayPrecede (s : State) : s.takeRequest.engine.takeMayPrecede = false := rfl
@[simp] theorem State.takeHead_engine_takeMayPrecede (s : State) (p : Port) (l : List Descriptor) :
    (s.takeHead p l).engine.takeMayPrecede = false := rfl
@[simp] theorem State.switchBanks_engine_takeMayPrecede (s : State) :
    s.switchBanks.engine.takeMayPrecede = s.engine.takeMayPrecede := by
  simp only [State.switchBanks]; (repeat' split) <;> simp
@[simp] theorem State.finishWalk_engine_takeMayPrecede (s : State) (d : Descriptor) (w : Walk) (e : WalkEnd) :
    (s.finishWalk d w e).engine.takeMayPrecede = s.engine.takeMayPrecede := by
  simp [State.finishWalk]

@[simp] theorem State.makeAwaitedSwitch_pending (s : State) :
    (s.makeAwaitedSwitch).pending = s.pending := by
  simp only [State.makeAwaitedSwitch]; split <;> simp
@[simp] theorem State.makeAwaitedSwitch_link (s : State) :
    (s.makeAwaitedSwitch).link = s.link := by
  simp only [State.makeAwaitedSwitch]; split <;> simp
@[simp] theorem State.makeAwaitedSwitch_receivers (s : State) :
    (s.makeAwaitedSwitch).receivers = s.receivers := by
  simp only [State.makeAwaitedSwitch]; split <;> simp
@[simp] theorem State.makeAwaitedSwitch_transmitters (s : State) :
    (s.makeAwaitedSwitch).transmitters = s.transmitters := by
  simp only [State.makeAwaitedSwitch]; split <;> simp
@[simp] theorem State.makeAwaitedSwitch_lineOut (s : State) :
    (s.makeAwaitedSwitch).lineOut = s.lineOut := by
  simp only [State.makeAwaitedSwitch]; split <;> simp
@[simp] theorem State.makeAwaitedSwitch_store (s : State) :
    (s.makeAwaitedSwitch).store = s.store := by
  simp only [State.makeAwaitedSwitch]; split <;> simp
@[simp] theorem State.makeAwaitedSwitch_runCount (s : State) :
    (s.makeAwaitedSwitch).runCount = s.runCount := by
  simp only [State.makeAwaitedSwitch]; split <;> simp
@[simp] theorem State.makeAwaitedSwitch_engine_lastServed (s : State) :
    (s.makeAwaitedSwitch).engine.lastServed = s.engine.lastServed := by
  simp only [State.makeAwaitedSwitch]; split <;> simp
@[simp] theorem State.makeAwaitedSwitch_monitors (s : State) :
    (s.makeAwaitedSwitch).monitors = s.monitors := by
  simp only [State.makeAwaitedSwitch]; split <;> simp
@[simp] theorem State.makeAwaitedSwitch_classes (s : State) :
    (s.makeAwaitedSwitch).classes = s.classes := by
  simp only [State.makeAwaitedSwitch]; split <;> simp
@[simp] theorem State.makeAwaitedSwitch_notice (s : State) :
    (s.makeAwaitedSwitch).notice = s.notice := by
  simp only [State.makeAwaitedSwitch]; split <;> simp
@[simp] theorem State.makeAwaitedSwitch_counters (s : State) :
    (s.makeAwaitedSwitch).counters = s.counters := by
  simp only [State.makeAwaitedSwitch]; split <;> simp
@[simp] theorem State.makeAwaitedSwitch_time (s : State) :
    (s.makeAwaitedSwitch).time = s.time := by
  simp only [State.makeAwaitedSwitch]; split <;> simp
@[simp] theorem State.makeAwaitedSwitch_agent (s : State) :
    (s.makeAwaitedSwitch).agent = s.agent := by
  simp only [State.makeAwaitedSwitch]; split <;> simp
@[simp] theorem State.makeAwaitedSwitch_freeUses (s : State) :
    (s.makeAwaitedSwitch).freeUses = s.freeUses := by
  simp only [State.makeAwaitedSwitch]; split <;> simp
@[simp] theorem State.makeAwaitedSwitch_engine_phase (s : State) :
    (s.makeAwaitedSwitch).engine.phase = s.engine.phase := by
  simp only [State.makeAwaitedSwitch]; split <;> simp
@[simp] theorem State.makeAwaitedSwitch_tables_banks (s : State) :
    (s.makeAwaitedSwitch).tables.banks = s.tables.banks := by
  simp only [State.makeAwaitedSwitch]; split <;> simp

@[simp] theorem State.completeWalk_pending (s : State) (d : Descriptor) (w : Walk) :
    (s.completeWalk d w).pending = s.pending := by
  simp [State.completeWalk]
@[simp] theorem State.completeWalk_link (s : State) (d : Descriptor) (w : Walk) :
    (s.completeWalk d w).link = s.link := by
  simp [State.completeWalk]
@[simp] theorem State.completeWalk_receivers (s : State) (d : Descriptor) (w : Walk) :
    (s.completeWalk d w).receivers = s.receivers := by
  simp [State.completeWalk]
@[simp] theorem State.completeWalk_transmitters (s : State) (d : Descriptor) (w : Walk) :
    (s.completeWalk d w).transmitters = s.transmitters := by
  simp [State.completeWalk]
@[simp] theorem State.completeWalk_lineOut (s : State) (d : Descriptor) (w : Walk) :
    (s.completeWalk d w).lineOut = s.lineOut := by
  simp [State.completeWalk]
@[simp] theorem State.completeWalk_store (s : State) (d : Descriptor) (w : Walk) :
    (s.completeWalk d w).store = s.store := by
  simp [State.completeWalk]
@[simp] theorem State.completeWalk_runCount (s : State) (d : Descriptor) (w : Walk) :
    (s.completeWalk d w).runCount = s.runCount := by
  simp [State.completeWalk]
@[simp] theorem State.completeWalk_engine_lastServed (s : State) (d : Descriptor) (w : Walk) :
    (s.completeWalk d w).engine.lastServed = s.engine.lastServed := by
  simp [State.completeWalk]
@[simp] theorem State.completeWalk_monitors (s : State) (d : Descriptor) (w : Walk) :
    (s.completeWalk d w).monitors = s.monitors := by
  simp [State.completeWalk]
@[simp] theorem State.completeWalk_classes (s : State) (d : Descriptor) (w : Walk) :
    (s.completeWalk d w).classes = s.classes := by
  simp [State.completeWalk]
@[simp] theorem State.completeWalk_notice (s : State) (d : Descriptor) (w : Walk) :
    (s.completeWalk d w).notice = s.notice := by
  simp [State.completeWalk]
@[simp] theorem State.completeWalk_time (s : State) (d : Descriptor) (w : Walk) :
    (s.completeWalk d w).time = s.time := by
  simp [State.completeWalk]
@[simp] theorem State.completeWalk_agent (s : State) (d : Descriptor) (w : Walk) :
    (s.completeWalk d w).agent = s.agent := by
  simp [State.completeWalk]
@[simp] theorem State.completeWalk_freeUses (s : State) (d : Descriptor) (w : Walk) :
    (s.completeWalk d w).freeUses = s.freeUses := by
  simp [State.completeWalk]
@[simp] theorem State.completeWalk_tables_banks (s : State) (d : Descriptor) (w : Walk) :
    (s.completeWalk d w).tables.banks = s.tables.banks := by
  simp [State.completeWalk]

/-- At the end of a walk the switch is made exactly where one is pending or posted, after which neither is (R65, R127). -/
theorem State.makeAwaitedSwitch_cases (s : State) :
    (s.engine.switchPosted = false ∧ s.engine.switchPending = false ∧ s.makeAwaitedSwitch = s) ∨
    ((s.engine.switchPosted = true ∨ s.engine.switchPending = true) ∧
      s.makeAwaitedSwitch = s.takeRequest.switchBanks ∧
      s.makeAwaitedSwitch.engine =
        { s.engine with
          activeBank := s.engine.activeBank.other, switchPosted := false, takeMayPrecede := false, switchPending := false }) := by
  have e : s.takeRequest.switchBanks.engine =
      { s.engine with
        activeBank := s.engine.activeBank.other, switchPosted := false, takeMayPrecede := false, switchPending := false } := by
    simp only [State.switchBanks, State.takeRequest]; (repeat' split) <;> simp
  unfold State.makeAwaitedSwitch
  cases hp : s.engine.switchPosted <;> cases hq : s.engine.switchPending
  · exact .inl ⟨rfl, rfl, rfl⟩
  · exact .inr ⟨.inr rfl, rfl, e⟩
  · exact .inr ⟨.inl rfl, rfl, e⟩
  · exact .inr ⟨.inl rfl, rfl, e⟩

/-- What FRAME_TAKE can do (R54, R55, R65): nothing, or take the head of a ready list in IDLE, with no switch pending and
none posted that comes first, into a walk or, where no entry is to be evaluated, through it. -/
theorem execFrameTake_cases (s : State) :
    execFrameTake s = .next s ∨
    ∃ p d rest, s.engine.phase = .idle ∧ s.engine.switchPending = false ∧
      (s.engine.switchPosted = false ∨ s.engine.takeMayPrecede = true) ∧ s.store.ready.get p = d :: rest ∧
      (((s.startWalk p).entry < (s.startWalk p).header.length.val ∧ execFrameTake s = .next { s.takeHead p rest with
          engine := { (s.takeHead p rest).engine with phase := .walking d (s.startWalk p) } }) ∨
        ((s.startWalk p).header.length.val ≤ (s.startWalk p).entry ∧
          execFrameTake s = .next ((s.takeHead p rest).completeWalk d (s.startWalk p)))) := by
  simp only [execFrameTake]
  split
  · rename_i p hi hb _
    simp only [Bool.or_eq_false_iff, State.requestPrecedesTake, Bool.and_eq_false_iff, Bool.not_eq_false'] at hb
    split
    · exact .inl rfl
    · rename_i d rest hr
      refine .inr ⟨p, d, rest, hi, hb.1, hb.2, hr, ?_⟩
      split
      · exact .inl ⟨‹_›, rfl⟩
      · exact .inr ⟨Nat.le_of_not_lt ‹_›, rfl⟩
  · exact .inl rfl

/-- At the end of a walk the engine holds the frame with its result, and no switch waits any more (R64, R65). -/
theorem State.completeWalk_engine (s : State) (d : Descriptor) (w : Walk) :
    let r := screeningResult d w (walkEnd s.store.bytes d (s.bank w.bank) w)
    (s.completeWalk d w).engine.phase = .holding r.1 r.2.1 r.2.2 ∧
      (s.completeWalk d w).engine.switchPosted = false ∧ (s.completeWalk d w).engine.switchPending = false := by
  intro r
  have h : (s.finishWalk d w (walkEnd s.store.bytes d (s.bank w.bank) w)).engine =
      { s.engine with phase := .holding r.1 r.2.1 r.2.2 } := by simp [State.finishWalk, r]
  rcases State.makeAwaitedSwitch_cases (s.finishWalk d w (walkEnd s.store.bytes d (s.bank w.bank) w)) with
    ⟨hp, hq, e⟩ | ⟨-, -, e⟩
  · refine ⟨?_, ?_, ?_⟩ <;> rw [State.completeWalk, e]
    · rw [h]
    · exact hp
    · exact hq
  · refine ⟨?_, ?_, ?_⟩ <;> rw [State.completeWalk, e]
    rw [h]

@[simp] theorem State.giveUp_pending (s : State) (p : Port) (f : Reception) (c : PortCounter) :
    (s.giveUp p f c).pending = s.pending := rfl
@[simp] theorem State.giveUp_link (s : State) (p : Port) (f : Reception) (c : PortCounter) :
    (s.giveUp p f c).link = s.link := rfl
@[simp] theorem State.giveUp_transmitters (s : State) (p : Port) (f : Reception) (c : PortCounter) :
    (s.giveUp p f c).transmitters = s.transmitters := rfl
@[simp] theorem State.giveUp_lineOut (s : State) (p : Port) (f : Reception) (c : PortCounter) :
    (s.giveUp p f c).lineOut = s.lineOut := rfl
@[simp] theorem State.giveUp_store_bytes (s : State) (p : Port) (f : Reception) (c : PortCounter) :
    (s.giveUp p f c).store.bytes = s.store.bytes := rfl
@[simp] theorem State.giveUp_store_ready (s : State) (p : Port) (f : Reception) (c : PortCounter) :
    (s.giveUp p f c).store.ready = s.store.ready := rfl
@[simp] theorem State.giveUp_store_forward (s : State) (p : Port) (f : Reception) (c : PortCounter) :
    (s.giveUp p f c).store.forward = s.store.forward := rfl
@[simp] theorem State.giveUp_store_purges (s : State) (p : Port) (f : Reception) (c : PortCounter) :
    (s.giveUp p f c).store.purges = s.store.purges := rfl
@[simp] theorem State.giveUp_runCount (s : State) (p : Port) (f : Reception) (c : PortCounter) :
    (s.giveUp p f c).runCount = s.runCount := rfl
@[simp] theorem State.giveUp_engine (s : State) (p : Port) (f : Reception) (c : PortCounter) :
    (s.giveUp p f c).engine = s.engine := rfl
@[simp] theorem State.giveUp_tables (s : State) (p : Port) (f : Reception) (c : PortCounter) :
    (s.giveUp p f c).tables = s.tables := rfl
@[simp] theorem State.giveUp_monitors (s : State) (p : Port) (f : Reception) (c : PortCounter) :
    (s.giveUp p f c).monitors = s.monitors := rfl
@[simp] theorem State.giveUp_classes (s : State) (p : Port) (f : Reception) (c : PortCounter) :
    (s.giveUp p f c).classes = s.classes := rfl
@[simp] theorem State.giveUp_events (s : State) (p : Port) (f : Reception) (c : PortCounter) :
    (s.giveUp p f c).events = s.events := rfl
@[simp] theorem State.giveUp_notice (s : State) (p : Port) (f : Reception) (c : PortCounter) :
    (s.giveUp p f c).notice = s.notice := rfl
@[simp] theorem State.giveUp_time (s : State) (p : Port) (f : Reception) (c : PortCounter) :
    (s.giveUp p f c).time = s.time := rfl
@[simp] theorem State.giveUp_agent (s : State) (p : Port) (f : Reception) (c : PortCounter) :
    (s.giveUp p f c).agent = s.agent := rfl
@[simp] theorem State.giveUp_freeUses (s : State) (p : Port) (f : Reception) (c : PortCounter) :
    (s.giveUp p f c).freeUses = s.freeUses := rfl

@[simp] theorem State.makeAllDue_pending (s : State) : s.makeAllDue.pending = s.pending := rfl
@[simp] theorem State.makeAllDue_link (s : State) : s.makeAllDue.link = s.link := rfl
@[simp] theorem State.makeAllDue_receivers (s : State) : s.makeAllDue.receivers = s.receivers := rfl
@[simp] theorem State.makeAllDue_transmitters (s : State) : s.makeAllDue.transmitters = s.transmitters := rfl
@[simp] theorem State.makeAllDue_lineOut (s : State) : s.makeAllDue.lineOut = s.lineOut := rfl
@[simp] theorem State.makeAllDue_store (s : State) : s.makeAllDue.store = s.store := rfl
@[simp] theorem State.makeAllDue_runCount (s : State) : s.makeAllDue.runCount = s.runCount := rfl
@[simp] theorem State.makeAllDue_engine (s : State) : s.makeAllDue.engine = s.engine := rfl
@[simp] theorem State.makeAllDue_tables (s : State) : s.makeAllDue.tables = s.tables := rfl
@[simp] theorem State.makeAllDue_monitors (s : State) : s.makeAllDue.monitors = s.monitors := rfl
@[simp] theorem State.makeAllDue_classes (s : State) : s.makeAllDue.classes = s.classes := rfl
@[simp] theorem State.makeAllDue_events (s : State) : s.makeAllDue.events = s.events := rfl
@[simp] theorem State.makeAllDue_counters (s : State) : s.makeAllDue.counters = s.counters := rfl
@[simp] theorem State.makeAllDue_time (s : State) : s.makeAllDue.time = s.time := rfl
@[simp] theorem State.makeAllDue_agent (s : State) : s.makeAllDue.agent = s.agent := rfl
@[simp] theorem State.makeAllDue_freeUses (s : State) : s.makeAllDue.freeUses = s.freeUses := rfl

/-! ## The disposition unit -/

/-- What a recomputation can do (R108): nothing, where the value stands, or take the new value with its record and, into
BLOCK, its purge request. -/
theorem State.recompute_cases (s : State) (c : ClassId) (w : Word) :
    let k := s.classState c
    let new := effectiveOf k.override k.engaged
    (new = k.effective ∧ s.recompute c w = s) ∨
    (new ≠ k.effective ∧ (s.recompute c w).classes = (s.setClass c { k with effective := new }).classes ∧
      (s.recompute c w).events = s.events.append s.time .dispositionChange (byteOf c.val) (byteOf (dispositionCode new)) w ∧
      (s.recompute c w).store.purges = s.store.purges ++ (if new = .block then [c] else [])) := by
  intro k new
  simp only [State.recompute]
  split
  · exact .inl ⟨‹_›, rfl⟩
  · refine .inr ⟨‹_›, ?_⟩
    split <;> simp_all [k, new]

/-- What an offer can do (R22, R115): refuse at a DOWN port, refuse at a full queue, or take. -/
theorem State.offer_cases (s : State) (d : Screened) :
    let q := opposite d.desc.ingress
    ((s.link.get q).recorded = .down ∧ s.offer d = (s.release d.desc).count (.port q .txFlushed) 1) ∨
    ((s.link.get q).recorded = .up ∧ Config.forwardCapacity ≤ (s.store.forward.get q).length ∧
      s.offer d = ((s.release d.desc).count (.port q .txQueueFull) 1).raiseDiscard q 3 .txQueueFull) ∨
    ((s.link.get q).recorded = .up ∧ (s.store.forward.get q).length < Config.forwardCapacity ∧
      s.offer d =
        { s with store := s.store.setForward q (s.store.forward.get q ++ [d]) }.count (.cls d.cls .forwarded) 1) := by
  intro q
  simp only [State.offer]
  split
  · exact .inl ⟨‹_›, rfl⟩
  · split
    · exact .inr (.inl ⟨‹_›, ‹_›, rfl⟩)
    · exact .inr (.inr ⟨‹_›, Nat.lt_of_not_le ‹_›, rfl⟩)

/-! ## Execution of a request -/

/-- What an execution can do (R163): nothing, where no request of the command waits or no slot is free, or answer the
head request in one of the three ways. -/
theorem State.execute_cases (runs : Byte → Bool) (body : Request → State → Reply) (s : State) :
    s.execute runs body = s ∨
    ∃ r rest, s.agent.requests = r :: rest ∧ runs r.command = true ∧ s.agent.slotFree = true ∧
      ((∃ b t, body r s.dequeue = .done b t ∧
          s.execute runs body = (t.respond r.port r.source r.seq r.tag r.command .done b).endExecution r) ∨
        (∃ u, body r s.dequeue = .refused u ∧
          s.execute runs body = (s.dequeue.respond r.port r.source r.seq r.tag r.command u []).endExecution r) ∨
        (∃ t, body r s.dequeue = .accepted t ∧ s.execute runs body = (t.reserve r).endExecution r)) := by
  simp only [State.execute]
  split
  · exact .inl rfl
  · rename_i r rest h
    split
    · rename_i hc
      simp only [Bool.and_eq_true] at hc
      refine .inr ⟨r, rest, h, hc.1, hc.2, ?_⟩
      split
      · rename_i b t e; exact .inl ⟨b, t, e, rfl⟩
      · rename_i u e; exact .inr (.inl ⟨u, e, rfl⟩)
      · rename_i t e; exact .inr (.inr ⟨t, e, rfl⟩)
    · exact .inl rfl

/-- The reply cache after an insertion (R164): at most four entries, the new one last. -/
theorem cacheInsert_length_le (e : CacheEntry) (l : List CacheEntry) :
    (cacheInsert e l).length ≤ Config.cacheCapacity := by
  simp only [cacheInsert, List.length_append, List.length_drop, List.length_singleton, Config.cacheCapacity]
  omega

theorem cacheInsert_getLast? (e : CacheEntry) (l : List CacheEntry) : (cacheInsert e l).getLast? = some e := by
  simp [cacheInsert]

/-! ## No command stops -/

/-- Every command answers a next state. -/
theorem exec_next (c : Instr) (s : State) : ∃ t, exec c s = .next t := by
  cases h : exec c s with
  | next t => exact ⟨t, rfl⟩
  | fault r => exact nomatch r
  | refused r =>
    exfalso
    revert h
    cases c <;> simp only [exec, execPowerOnReset, execLinkChangeUp, execLinkChangeDown, execReceiverLinkDown,
      execTransmitterLinkDown, execFlush, execSlotFreeAtLinkDown, execNoticePortDown, execFrameStart, execBlockClaim,
      execOversize, execFrameEnd, execMgmtRequestArrival, execNoticeAck, execFrameTake, execWalkCompletion,
      execSwitchRequest, execMonitorTakeFrame, execPurge, execEgressGrant, execEndOfTransmission, execTick,
      execDelayTimerExpiry, execRecoveryTimerExpiry, execSilenceTimerExpiry, execDecayTimerExpiry,
      execLatchExpiryTimerExpiry, execRetransmitTimerExpiry, execVerifyExaminationComplete, execCopyComplete,
      execResultReport, execNoticeForming, execIdentify, execSetAddress, execSetAccess, execReadHeader,
      execWriteHeader, execReadEntries, execWriteEntries, execVerify, execCommit, execReadMonitor, execWriteMonitor,
      execStartMonitor, execStopMonitor, execReleaseMonitor, execSetOverride, execReadStatus, execReadCounters,
      execSetNotice, execResumeNotice, execRestart, execBadCommand, execFrameEndInDiscarding] <;>
      (repeat' split) <;> exact fun e => nomatch e

end Sys2Proof.Machine
end

