-- ==== Sys2Proof/WellFormed.lean ====
section
/-! DEFINITION. Which commands are well formed. -/

namespace Sys2Proof

/-- A block takes the byte at the claim position and at most the 63 bytes after it (R7, R17); every other operand is
bounded by its type. -/
def Instr.wellFormed : Instr → Bool
  | .blockClaim _ _ bytes => decide (1 ≤ bytes.length) && decide (bytes.length ≤ Config.blockSize)
  | _ => true

end Sys2Proof
end

