-- ==== Sys2Proof/Tests/Slice0.lean ====
section
/-! SUPPORT. Tests of one step each, with expected results taken from the spec's tables and worked sequences, and for every
statement with hypotheses a witness that meets them. -/

namespace Sys2Proof.Tests

open Sys2Proof Sys2Proof.Machine

set_option Elab.async false

/-! ## Small states -/

/-- The part after reset with both links UP. -/
def up : State :=
  { State.reset with link := .both ⟨.up, 0, .none⟩, receivers := .both .idle, transmitters := .both .idle }

/-- The state after a command. -/
def after (c : Instr) (s : State) : State :=
  match exec c s with
  | .next t => t
  | _ => s

/-- A request from node 12 on port A, with tag 0x0102, whose frame holds no block. -/
def ask (code : Byte) (args : List Byte) : Request := ⟨.a, 12, 7, 0x0102, code, args, ⟨.a, 0, []⟩⟩

/-- That request at the head of the queue. -/
def asking (code : Byte) (args : List Byte) : State :=
  { up with agent := { Agent.powerOn with requests := [ask code args] } }

/-- The results that the newest response carries. -/
def results (s : State) : List Byte := ((s.agent.responses.getLast?.map (·.frame.payload)).getD []).drop 4

/-- The status of the newest response. -/
def status (s : State) : Byte := byteAt ((s.agent.responses.getLast?.map (·.frame.payload)).getD []) 3

/-- The bytes of a frame as the cells of block 0. -/
def cellsOf (bytes : List Byte) : List Host.Cell :=
  (bytes.zipIdx.filter fun x => decide (x.1 ≠ 0)).map fun x => (x.2, x.1)

/-- The frame stored in block 0, which arrived on port A. -/
def inBlock0 (bytes : List Byte) : Descriptor := ⟨.a, bytes.length, [0]⟩

/-- The part with a frame in block 0. -/
def holding0 (bytes : List Byte) : State :=
  { up with store := { up.store with bytes := cellsOf bytes, free := up.store.free.erase 0, share := ⟨1, 0⟩ } }

/-- A setpoint frame of section 3.9: from node 12, type 0x21, value 500 at positions 10..11. -/
def setpoint : Originated := ⟨20, 12, 0x21, 1, [1, 2, 0x01, 0xF4, 0, 0]⟩

/-- The same frame as an accepted frame of class 5 with its sample. -/
def screened : Screened :=
  ⟨inBlock0 setpoint.bytes, .accept, 5, (Vector.replicate 4 none).set 0 (some ⟨500, 10, .two, 0xFFFF⟩)⟩

/-- An accepted frame of class 5 with a sample in slot 0 alone. -/
def sampled : Screened :=
  ⟨⟨.a, 12, []⟩, .accept, 5, (Vector.replicate 4 none).set 0 (some ⟨500, 10, .two, 0xFFFF⟩)⟩

/-- The part with one monitor's records replaced. -/
def withMonitor0 (c : MonitorConfig) (r : MonitorRuntime) (s : State) : State :=
  { s with monitors := s.monitors.set 0 ⟨c, r⟩ }

/-- An ABOVE monitor of class 5: threshold 100, hysteresis 10, trip delay 50, recovery time 30, latch limit 2. -/
def watch : MonitorConfig :=
  { MonitorConfig.powerOn with
    cls := 5, threshold := 100, hysteresis := 10, tripDelay := 50, recoveryTime := 30, latchLimit := 2,
    latchExpiry := 3, consequence := .substitute, substituteValue := 60 }

/-- A runtime record in a state, with no timer running. -/
def inState (st : MonitorState) : MonitorRuntime := { MonitorRuntime.off with state := st }

/-- A bank of one repeated entry. -/
def bankOf (length : Fin 257) (entryA : Fin 256) (e : Entry) : Bank :=
  ⟨⟨length, entryA, 0, 32, .forwardUnclassified⟩, Vector.replicate 256 e⟩

/-! ## Well-formed commands -/

theorem test_claim_without_a_byte_is_ill_formed : (Instr.blockClaim .a 0 []).wellFormed = false := by decide

theorem test_claim_of_65_bytes_is_ill_formed : (Instr.blockClaim .a 0 (List.replicate 65 0)).wellFormed = false := by
  decide

theorem test_claims_of_1_and_64_bytes_are_well_formed :
    (Instr.blockClaim .a 0 [0]).wellFormed = true ∧ (Instr.blockClaim .a 0 (List.replicate 64 0)).wellFormed = true := by
  decide

theorem test_no_word_spells_a_command : decodeTableWord 8 0x3F = none ∧ State.reset.withFetchWord 8 0x3F = State.reset :=
  ⟨rfl, rfl⟩

/-! ## Wire formats (expected bytes from chapters 3, 12) -/

/-- R174 gives this value. -/
theorem test_crc_of_the_nine_digits :
    crc [0x31, 0x32, 0x33, 0x34, 0x35, 0x36, 0x37, 0x38, 0x39] = 0xCBF43926 := by decide +kernel

/-- R38: the power-on entry is the all-zero pattern. -/
theorem test_zero_bytes_are_the_power_on_entry : entryOf (List.replicate 16 0) = some .powerOn := by decide

/-- Section 3.9, entry 2: FRAME 6, width 2, mask 0xFFFF, NOT_BELOW 4, NEXT 3, DROP 6. -/
theorem test_entry_2_of_section_3_9 :
    entryOf [0, 6, 0x30, 0, 0, 0, 0xFF, 0xFF, 0, 0, 0, 4, 0x02, 3, 6, 0] =
      some ⟨.frame, 6, .two, 0xFFFF, .notBelow, 4, .next, 3, .drop, 6, none, .none, 0⟩ := by decide

/-- R39, R175: ACCEPT with class 0, a width code of 3 and offset 508 are refused. -/
theorem test_illegal_entries_are_refused :
    entryOf [0, 0, 0, 0, 0, 0, 0, 0, 0, 0, 0, 0, 0x04, 0xE0, 0, 0] = none ∧
    entryOf [0, 0, 0x60, 0, 0, 0, 0, 0, 0, 0, 0, 0, 0, 0, 0, 0] = none ∧
    entryOf [0x01, 0xFC, 0, 0, 0, 0, 0, 0, 0, 0, 0, 0, 0, 0, 0, 0] = none := by decide

/-- Section 3.9's header: length 6, entry A 0, entry B 5, step budget 8, DROP_UNCLASSIFIED. -/
theorem test_header_of_section_3_9 :
    headerOf [0, 6, 0, 5, 8, 1] = some ⟨6, 0, 5, 8, .dropUnclassified⟩ ∧ headerOf [0, 6, 0, 5, 65, 1] = none := by decide

/-! ## One step each -/

/-- R4, R5: the recorded state, and LINK_UP with subject port B. -/
theorem test_link_up :
    ((after (.linkChangeUp .b) State.reset).link.b.recorded = .up) ∧
    ((after (.linkChangeUp .b) State.reset).events.unsent.map fun q => (q.record.kind, q.record.subject)) =
      [(.restarted, 0), (.linkUp, 1)] := by decide +kernel

/-- R5: a change to DOWN that cuts a frame in reception is RX_CUT (1). -/
theorem test_link_down_cuts_reception :
    ((after (.linkChangeDown .a) { up with receivers := ⟨.discarding, .idle⟩ }).events.unsent.map (·.record.qualifier)) =
      [1, 1] ∧ (after (.linkChangeDown .a) up).receivers.a = .idle := by decide +kernel

/-- R7: position 64 claims the second block; the share is 64 at most. -/
theorem test_claim :
    (after (.blockClaim .a 9 [1, 2, 3]) (after (.frameStart .a) up)).receivers.a =
      .receiving ⟨3, [9], [1, 2, 3].foldl crcByte 0xFFFFFFFF⟩ ∧
    (after (.blockClaim .a 9 [1]) { after (.frameStart .a) up with store := { up.store with share := ⟨64, 0⟩ } }).receivers.a
      = .discarding := by decide +kernel

/-- R10: a sound frame to another node joins the ready list; one whose check is wrong does not (R9). -/
theorem test_frame_end :
    (after (.frameEnd .a false) { holding0 setpoint.bytes with receivers := ⟨.receiving ⟨18, [0], 0⟩, .idle⟩ }).store.ready.a
      = [inBlock0 setpoint.bytes] ∧
    ((after (.frameEnd .a false) { holding0 (setpoint.bytes.set 10 2) with
      receivers := ⟨.receiving ⟨18, [0], 0⟩, .idle⟩ }).counter (.port .a .rxCheckError)).value = 1 := by decide +kernel

/-- R54: with a frame on each list, the port not served last goes first. -/
theorem test_take_alternates :
    (after .frameTake { up with store := { up.store with ready := ⟨[⟨.a, 12, [1]⟩], [⟨.b, 12, [2]⟩]⟩ } }).engine.lastServed
      = .a ∧
    (after .frameTake { up with
      engine := { up.engine with lastServed := .a }
      store := { up.store with ready := ⟨[⟨.a, 12, [1]⟩], [⟨.b, 12, [2]⟩]⟩ } }).engine.lastServed = .b := by
  decide +kernel

/-- R37, R55: under the empty program a frame's walk completes at the take, accepted as class 0 with one step used. -/
theorem test_empty_program :
    (after .frameTake { up with store := { up.store with ready := ⟨[⟨.a, 12, [1]⟩], []⟩ } }).engine.phase =
      .holding ⟨⟨.a, 12, [1]⟩, .accept, 0, noSlots⟩ none 1 := by decide +kernel

/-- R55, R59, R63: an entry point at the length ends the walk at the take, in TARGET_RANGE (4) at index 256. -/
theorem test_entry_point_beyond_the_length :
    let s := after .frameTake { up with
      store := { up.store with ready := ⟨[⟨.a, 12, [1]⟩], []⟩ }
      tables := { up.tables with banks := ⟨bankOf 1 1 .powerOn, .powerOn⟩ } }
    s.engine.phase = .holding ⟨⟨.a, 12, [1]⟩, .accept, 0, noSlots⟩ (some .targetRange) 1 ∧
    ((s.events.unsent.getLast?.map fun q => (q.record.kind, q.record.qualifier, q.record.detail)) =
      some (.screenFault, 4, 256)) := by decide +kernel

/-- A COMMIT in KEEP mode that finds the engine in a phase, with one frame in port A's ready list. -/
def committed (phase : Phase) : State :=
  after .commit { asking 0x15 [1] with
    store := { up.store with ready := ⟨[⟨.a, 12, [1]⟩], []⟩ }
    engine := { up.engine with phase := phase }
    tables := { up.tables with banks := ⟨bankOf 1 0 .powerOn, .powerOn⟩, verify := .passed } }

/-- R65: a take that meets the request in IDLE may come first; the switch is then made when that frame's walk completes. -/
theorem test_switch_after_the_take :
    (after .frameTake (committed .idle)).engine.activeBank = .bank0 ∧
    (after .walkCompletion (after .frameTake (committed .idle))).engine.activeBank = .bank1 ∧
    (after .walkCompletion (after .frameTake (committed .idle))).engine.switchPosted = false := by decide +kernel

/-- R65, R127: a frame that waits while a COMMIT finds the engine HOLDING is walked under the new active bank. -/
theorem test_switch_before_the_take :
    let s := after .monitorTakeFrame (committed (.holding sampled none 1))
    s.engine.phase = .idle ∧ after .frameTake s = s ∧
    (after .frameTake (after .switchRequest s)).engine.phase = .holding ⟨⟨.a, 12, [1]⟩, .accept, 0, noSlots⟩ none 1 := by
  decide +kernel

/-- R76, R77: an offending sample with a trip delay puts the monitor in ALERT with its delay timer. -/
theorem test_offending_sample :
    ((after .monitorTakeFrame { withMonitor0 watch (inState .normal) (holding0 setpoint.bytes) with
      engine := { up.engine with phase := .holding screened none 4 } }).monitor 0).run =
      { inState .alert with delay := some 50, lastSample := some 500 } := by decide +kernel

/-- R113, R114: under an engaged SUBSTITUTE monitor the value 500 leaves as 60, the flags are set and the check matches. -/
theorem test_substitution :
    let s : State := { withMonitor0 watch (inState .tripped) (holding0 setpoint.bytes) with
      engine := { up.engine with phase := .holding screened none 4 }
      classes := up.classes.set 5 ⟨.auto, [⟨0, .substitute, 0⟩], .substitute⟩ }
    let t := after .monitorTakeFrame s
    let bytes := t.frameBytes screened.desc
    t.store.forward.b = [screened] ∧ halfAt bytes 10 = 60 ∧ byteAt bytes 3 = 0xC0 ∧ checkMatches bytes = true := by
  decide +kernel

/-- R22: a full forward queue refuses, counts in tx_queue_full and returns the blocks. -/
theorem test_full_forward_queue :
    let s : State := { holding0 setpoint.bytes with
      store := { (holding0 setpoint.bytes).store with forward := ⟨[], List.replicate 24 ⟨⟨.a, 12, []⟩, .accept, 1, noSlots⟩⟩ } }
    (s.offer screened).store.share.a = 0 ∧ ((s.offer screened).counter (.port .b .txQueueFull)).value = 1 := by
  decide +kernel

/-- R28: a purge removes the class's frames from both queues. -/
theorem test_purge :
    let d := fun (c : ClassId) (b : BlockId) => (⟨⟨.a, 12, [b]⟩, .accept, c, noSlots⟩ : Screened)
    let s : State := { up with store := { up.store with forward := ⟨[d 5 1, d 6 2], [d 5 3]⟩, purges := [5] } }
    (after (.purge 5) s).store.forward = ⟨[d 6 2], []⟩ ∧
      ((after (.purge 5) s).counter (.cls 5 .blocked)).value = 2 := by decide +kernel

/-- R26: at run count 3 the forward head goes before a waiting response. -/
theorem test_grant_after_three :
    let d : Screened := ⟨⟨.a, 12, [1]⟩, .accept, 1, noSlots⟩
    let s : State := { up with
      store := { up.store with forward := ⟨[], [d]⟩ }
      agent := { up.agent with responses := [⟨.b, setpoint, false⟩] } }
    (after (.egressGrant .b) { s with runCount := ⟨0, 3⟩ }).transmitters.b = .sending (.forwarded d) ∧
    (after (.egressGrant .b) { s with runCount := ⟨0, 2⟩ }).transmitters.b = .sending (.response setpoint) := by
  decide +kernel

/-- R14: the whole frame stands on the line. -/
theorem test_end_of_transmission :
    (after (.endOfTransmission .b) { up with transmitters := ⟨.idle, .sending (.response setpoint)⟩ }).lineOut.b =
      .sent setpoint.bytes := by decide +kernel

/-- R156: the time stamp wraps. -/
theorem test_time_wraps : (after .tick { up with time := 0xFFFFFFFF }).time = 0 := by decide +kernel

/-- R78, R94: the second trip of a monitor with latch limit 2 latches it for 3 s. -/
theorem test_delay_expiry_latches :
    ((after (.delayTimerExpiry 0) (withMonitor0 watch
      { inState .alert with delay := some 0, latchCounter := 1, lastSample := some 500 } up)).monitor 0).run =
      { inState .latched with latchCounter := 2, lastSample := some 500, expiry := some 3000 } := by decide +kernel

/-- R80: the end of a recovery clears the monitor and starts its decay. -/
theorem test_recovery_expiry :
    ((after (.recoveryTimerExpiry 0) (withMonitor0 watch
      { inState .recovering with recovery := some 0, latchCounter := 1 } up)).monitor 0).run =
      { inState .normal with latchCounter := 1, decay := some 100 } := by decide +kernel

/-- R85: silence in RECOVERING breaks the recovery. -/
theorem test_silence_expiry :
    ((after (.silenceTimerExpiry 0) (withMonitor0 { watch with kind := .stale }
      { inState .recovering with silence := some 0, recovery := some 9 } up)).monitor 0).run = inState .tripped := by
  decide +kernel

/-- R96: the decay takes 1 from the counter and goes on while it is above 0. -/
theorem test_decay_expiry :
    ((after (.decayTimerExpiry 0) (withMonitor0 watch
      { inState .normal with decay := some 0, latchCounter := 2 } up)).monitor 0).run =
      { inState .normal with latchCounter := 1, decay := some 100 } := by decide +kernel

/-- R100: the latch expiry releases into NORMAL with counter 0. -/
theorem test_latch_expiry :
    ((after (.latchExpiryTimerExpiry 0) (withMonitor0 watch
      { inState .latched with expiry := some 0, latchCounter := 2 } up)).monitor 0).run = inState .normal := by
  decide +kernel

/-- R142, section 12.4: the first NOTICE after a reset carries the RESTARTED record. -/
theorem test_first_notice :
    ((after .noticeForming { up with notice := { up.notice with state := .active, destination := some ⟨12, .a⟩ } }).notice.frame.map
      (·.frame)) = some ⟨12, 254, 0xF2, 0, [0, 0, 0, 0, 0, 0, 13, 0, 1, 1, 0, 0, 0, 0]⟩ := by decide +kernel

/-- R146: the sixth expiry stalls. -/
theorem test_stall :
    (after .retransmitTimerExpiry { up with
      notice := { up.notice with state := .active, retries := 5, timer := some 0 } }).notice.state = .stalled := by
  decide +kernel

/-- R145: an acknowledgement through record 0 removes it. -/
theorem test_acknowledgement :
    let ack : Originated := ⟨254, 12, 0xF3, 0, [0, 0]⟩
    let s : State := { holding0 ack.bytes with
      notice := { up.notice with
        state := .stalled, retries := 6, destination := some ⟨12, .a⟩, inbox := ⟨[inBlock0 ack.bytes], []⟩ }
      events := { up.events with outstanding := up.events.unsent, unsent := [] } }
    (after (.noticeAck .a) s).events.outstanding = [] ∧ (after (.noticeAck .a) s).notice.state = .active := by
  decide +kernel

/-- R161: a request on a port outside the port set is counted in port_refused; on port A it is queued with its fields. -/
theorem test_arrival :
    let f : Originated := ⟨254, 12, 0xF0, 7, [1, 2, 0x28, 5, 2]⟩
    let s := fun p => { holding0 f.bytes with
      agent := { up.agent with inbox := .both [{ inBlock0 f.bytes with ingress := p }] } }
    ((after (.mgmtRequestArrival .b) (s .b)).counter (.mgmt .portRefused)).value = 1 ∧
    (after (.mgmtRequestArrival .a) (s .a)).agent.requests =
      [⟨.a, 12, 7, 0x0102, 0x28, [5, 2], inBlock0 f.bytes⟩] := by decide +kernel

/-- Section 12.2: the results of IDENTIFY are 22 bytes. -/
theorem test_identify : (results (after .identify (asking 0x01 []))).length = 22 := by decide +kernel

/-- R169: 255 is refused BAD_ARGUMENT (4); the answer to a change comes from the new address. -/
theorem test_set_address :
    status (after .setAddress (asking 0x02 [255])) = 4 ∧
    ((after .setAddress (asking 0x02 [7])).agent.responses.map (·.frame.source)) = [7] := by decide +kernel

/-- R170: a port set without the requester's port is a LOCKOUT (8). -/
theorem test_set_access :
    status (after .setAccess (asking 0x03 [2, 0])) = 8 ∧
    (after .setAccess (asking 0x03 [3, 1, 12])).agent.sources = [12] := by decide +kernel

/-- R122: the header of a part just reset. -/
theorem test_read_header : results (after .readHeader (asking 0x10 [1])) = [1, 0, 0, 0, 0, 32, 0] := by decide +kernel

/-- R120: the shadow bank takes the header. -/
theorem test_write_header :
    ((after .writeHeader (asking 0x11 [0, 6, 0, 5, 8, 1])).bank .bank1).header = ⟨6, 0, 5, 8, .dropUnclassified⟩ := by
  decide +kernel

/-- R122: a range past entry 255 is refused; an entry is read back as sixteen bytes. -/
theorem test_read_entries :
    status (after .readEntries (asking 0x12 [0, 255, 2])) = 4 ∧
    results (after .readEntries (asking 0x12 [0, 255, 1])) = [0, 255, 1] ++ List.replicate 16 0 := by decide +kernel

/-- R40: one illegal entry of two refuses both. -/
theorem test_write_entries :
    let good : List Byte := [0, 6, 0x30, 0, 0, 0, 0xFF, 0xFF, 0, 0, 0, 4, 0x02, 3, 6, 0]
    let bad : List Byte := good.set 12 0x0C
    status (after .writeEntries (asking 0x13 ([2, 2] ++ good ++ bad))) = 4 ∧
    ((after .writeEntries (asking 0x13 ([2, 1] ++ good))).bank .bank1).entries[2] =
      ⟨.frame, 6, .two, 0xFFFF, .notBelow, 4, .next, 3, .drop, 6, none, .none, 0⟩ := by decide +kernel

/-- R124, R125: a power-on bank passes. -/
theorem test_verify :
    (after .verifyExaminationComplete (after .verify (asking 0x14 []))).tables.verify = .passed ∧
    results (after .resultReport (after .verifyExaminationComplete (after .verify (asking 0x14 [])))) = [1, 0, 0, 0] := by
  decide +kernel

/-- R126: without a passed verification COMMIT is NOT_VERIFIED (5). -/
theorem test_commit :
    status (after .commit (asking 0x15 [1])) = 5 ∧
    (after .switchRequest (after .commit { asking 0x15 [1] with
      tables := { up.tables with verify := .passed } })).engine.activeBank = .bank1 := by decide +kernel

/-- R88: monitor 48 does not exist. -/
theorem test_read_monitor :
    status (after .readMonitor (asking 0x20 [48])) = 4 ∧
    (results (after .readMonitor (asking 0x20 [47]))).length = 54 := by decide +kernel

/-- R69, R91: decay interval 0 is refused. -/
theorem test_write_monitor :
    status (after .writeMonitor (asking 0x21 (0 :: configBytes { watch with decayInterval := 0 }))) = 4 ∧
    ((after .writeMonitor (asking 0x21 (0 :: configBytes watch))).monitor 0).config = watch := by decide +kernel

/-- R89, R90. -/
theorem test_start_and_stop_monitor :
    ((after .startMonitor (asking 0x22 [3])).monitor 3).run.state = .normal ∧
    ((after .stopMonitor (withMonitor0 watch (inState .tripped) (asking 0x23 [0]))).monitor 0).run = .off := by
  decide +kernel

/-- R101: only a LATCHED monitor is released (NOT_LATCHED is 7). -/
theorem test_release_monitor : status (after .releaseMonitor (asking 0x24 [0])) = 7 := by decide +kernel

/-- R109, R110: FORCE_BLOCK answers BLOCK (3) and requests a purge. -/
theorem test_set_override :
    results (after .setOverride (asking 0x28 [5, 2])) = [3] ∧
    (after .setOverride (asking 0x28 [5, 2])).store.purges = [5] := by decide +kernel

/-- R172: 97 bytes, both links UP at position 91, 96 free blocks at position 92. -/
theorem test_read_status :
    let bs := results (after .readStatus (asking 0x30 []))
    bs.length = 97 ∧ byteAt bs 91 = 3 ∧ byteAt bs 92 = 96 := by decide +kernel

/-- R154: a read of MGMT with clear leaves the read's own execution counted. -/
theorem test_read_counters :
    results (after .readCounters (asking 0x31 [36, 0])) = [36, 3] ++ List.replicate 12 0 ∧
    ((after .readCounters { asking 0x31 [35, 1] with counters := (up.count (.mgmt .executed) 9).counters }).counter
      (.mgmt .executed)).value = 1 := by decide +kernel

/-- R147, R148. -/
theorem test_set_notice :
    (after .setNotice (asking 0x38 [1, 12, 0, 20])).notice.destination = some ⟨12, .a⟩ ∧
    status (after .setNotice (asking 0x38 [1, 12, 2, 20])) = 4 ∧
    (after .resumeNotice { asking 0x39 [] with notice := { up.notice with state := .stalled } }).notice.state = .active := by
  decide +kernel

/-- R148: with no record outstanding, RESUME_NOTICE leaves a waiting frame (its records were acknowledged meanwhile). -/
theorem test_resume_notice :
    (after .resumeNotice { asking 0x39 [] with
      notice := { up.notice with
        state := .active, destination := some ⟨12, .a⟩, retries := 3
        frame := some ⟨⟨12, 254, 0xF2, 0, []⟩, .a, false⟩ } }).notice.frame.isSome = true := by decide +kernel

/-- R135, R173: a RESTART leaves the RESTARTED record with qualifier 2 and answers DONE. -/
theorem test_restart :
    ((after .restart (asking 0x3F [])).events.unsent.map fun q => (q.record.kind, q.record.qualifier, q.record.detail)) =
      [(.restarted, 2, 12)] ∧
    status (after .restart (asking 0x3F [])) = 0 := by decide +kernel

/-- R163: BAD_COMMAND is 3. -/
theorem test_bad_command : status (after .badCommand (asking 0x7F [])) = 3 := by decide +kernel

/-! ## Witnesses: states and operands that meet the hypotheses of the statements -/

/-- A port receiving a frame, a frame in screening, a running monitor, a destination and a waiting command. -/
def working : State :=
  { withMonitor0 watch { inState .normal with latchCounter := 1, decay := some 70 } up with
    pending := [.tick]
    receivers := ⟨.receiving ⟨2, [4], [7, 9].foldl crcByte 0xFFFFFFFF⟩, .idle⟩
    store := { up.store with bytes := [(256, 7), (257, 9)], free := (allBlocks.erase 4).erase 6, share := ⟨1, 1⟩ }
    engine := { up.engine with
      phase := .walking ⟨.b, 12, [6]⟩ { bank := .bank0, header := (bankOf 1 0 .powerOn).header, entry := 0, cursor := 8,
                                        steps := 0, slots := noSlots } }
    tables := { up.tables with banks := ⟨bankOf 1 0 .powerOn, .powerOn⟩ }
    notice := { up.notice with state := .active, destination := some ⟨12, .a⟩ } }

theorem working_steps : ∃ t, step working = .next t := ⟨_, rfl⟩

theorem witness_StepRunsTheFrontCommand : working.pending = .tick :: [] ∧ up.pending = [] := ⟨rfl, rfl⟩

theorem working_linksFollowed : LinksFollowed working := fun p => by cases p <;> decide +kernel

theorem witness_BlocksStayConserved : LinksFollowed working ∧ BlocksConserved working ∧ ∃ t, step working = .next t :=
  ⟨working_linksFollowed, by unfold BlocksConserved; decide +kernel, working_steps⟩

theorem witness_SharesStayTrue : LinksFollowed working ∧ SharesTrue working ∧ ∃ t, step working = .next t :=
  ⟨working_linksFollowed, fun p => by cases p <;> decide +kernel, working_steps⟩

theorem witness_FramesStaySized : FramesSized working ∧ ∃ t, step working = .next t :=
  ⟨by unfold FramesSized; decide +kernel, working_steps⟩

theorem witness_BytesStayCanonical : BytesCanonical working ∧ ∃ t, step working = .next t :=
  ⟨by unfold BytesCanonical; decide +kernel, working_steps⟩

theorem witness_RunningChecksStayTrue :
    BytesCanonical working ∧ BlocksConserved working ∧ FramesSized working ∧ ReceptionsChecked working ∧
      ∃ t, step working = .next t := by
  refine ⟨witness_BytesStayCanonical.1, witness_BlocksStayConserved.2.1, witness_FramesStaySized.1, ?_, working_steps⟩
  intro p f h
  cases p
  · cases h
    decide +kernel
  · cases h

theorem witness_QueuesStaySound : QueuesSound working ∧ ∃ t, step working = .next t := by
  refine ⟨⟨?_, ?_, ?_, ?_, ?_⟩, working_steps⟩ <;> intro p <;> cases p <;> decide +kernel

theorem witness_CapacitiesStayKept : WithinCapacities working ∧ ∃ t, step working = .next t := by
  refine ⟨⟨?_, ?_, ?_, ?_, ?_, ?_, ?_, ?_, ?_⟩, working_steps⟩
  · intro p; cases p <;> decide +kernel
  · intro p; cases p <;> decide +kernel
  · intro p; cases p <;> decide +kernel
  all_goals decide +kernel

theorem witness_BanksStaySound : BanksSound working ∧ ∃ t, step working = .next t := by
  refine ⟨⟨?_, by decide +kernel, ?_, ?_, ?_, ?_, ?_, ?_⟩, working_steps⟩
  · intro k; cases k <;> decide +kernel
  · intro h; cases h
  · intro m h; cases h
  · rintro (h | h) <;> cases h
  · rintro ⟨h, -⟩; cases h
  · intro h; cases h
  · intro h; cases h

theorem witness_WalksStayUnderTheActiveBank :
    QueuesSound working ∧ WalkUnderActive working ∧ (∃ d w, working.engine.phase = .walking d w) ∧
      ∃ t, step working = .next t := by
  refine ⟨witness_QueuesStaySound.1, ?_, ⟨_, _, rfl⟩, working_steps⟩
  intro d w h
  cases h
  exact ⟨rfl, rfl, rfl, by decide⟩

theorem working_monitor (m : MonitorId) (h : m ≠ 0) : working.monitor m = .powerOn := by
  have h0 : (0 : Nat) ≠ m.val := fun e => h (Fin.ext e.symm)
  simp [working, withMonitor0, up, State.reset, State.monitor, h0]

theorem working_monitor_0_sound : MonitorSound (working.monitor 0) := by constructor <;> decide +kernel

theorem powerOn_monitor_sound : MonitorSound .powerOn := by constructor <;> decide +kernel

theorem witness_MonitorsStaySound : MonitorsSound working ∧ ∃ t, step working = .next t := by
  refine ⟨fun m => ?_, working_steps⟩
  rcases Decidable.em (m = 0) with rfl | h
  · exact working_monitor_0_sound
  · exact working_monitor m h ▸ powerOn_monitor_sound

theorem witness_DispositionsStayDerived : DispositionsDerived working ∧ ∃ t, step working = .next t :=
  ⟨by unfold DispositionsDerived; decide +kernel, working_steps⟩

theorem witness_SequencesStayConsecutive : SequencesRun working ∧ ∃ t, step working = .next t :=
  ⟨by unfold SequencesRun; decide +kernel, working_steps⟩

theorem witness_NoticeSenderStaysSound : NoticeSound working ∧ ∃ t, step working = .next t := by
  refine ⟨?_, working_steps⟩
  constructor
  case resend => intro n h; cases h
  all_goals decide +kernel

/-- Port A sends the NOTICE frame and port B a response, and port B's transmission is about to end. -/
def owned : State :=
  { up with
    pending := [.endOfTransmission .b]
    transmitters := ⟨.sending (.notice setpoint), .sending (.response setpoint)⟩
    notice := { up.notice with state := .active, destination := some ⟨12, .a⟩, frame := some ⟨setpoint, .a, true⟩ }
    agent := { up.agent with responses := [⟨.b, setpoint, false⟩, ⟨.b, setpoint, true⟩] } }

theorem witness_LinksStayFollowed :
    (LinksFollowed working ∧ ∃ t, step working = .next t) ∧
    LinksFollowed owned ∧ TransmittersOwned owned ∧ ∃ t, step owned = .next t := by
  refine ⟨⟨working_linksFollowed, working_steps⟩, fun p => ?_, ⟨fun p f => ?_, fun p _ => ?_, fun p h => ?_⟩, ⟨_, rfl⟩⟩
  · cases p <;> decide +kernel
  · cases p
    · exact ⟨fun h => by cases h; rfl, fun h => by cases h; rfl⟩
    · exact ⟨nofun, nofun⟩
  · cases p <;> rfl
  · cases p <;> cases h

theorem witness_AgentStaysSound : AgentSound working ∧ ∃ t, step working = .next t :=
  ⟨by constructor <;> decide +kernel, working_steps⟩

/-- The least and the greatest legal values of an entry's bounded fields. -/
theorem witness_EntriesRoundTrip :
    legalEntry .powerOn = true ∧
    legalEntry ⟨.cursor, 507, .four, 0xFFFFFFFF, .notBelow, 0xFFFFFFFF, .accept, 1, .drop, 0, some 3, .addValue, 255⟩
      = true ∧
    (List.replicate 16 (0 : Byte)).length = 16 ∧ entryOf (List.replicate 16 0) = some .powerOn := by decide +kernel

theorem witness_HeadersAndMonitorRecordsRoundTrip :
    1 ≤ ({ Header.powerOn with budget := 1 } : Header).budget ∧ ({ Header.powerOn with budget := 64 } : Header).budget ≤ 64 ∧
    headerOf [1, 0, 255, 255, 64, 1] = some ⟨256, 255, 255, 64, .dropUnclassified⟩ ∧
    legalConfig watch = true ∧ legalConfig { watch with hysteresis := 100 } = true ∧
    (configBytes watch).length = 26 ∧ configOf (configBytes watch) = some watch := by decide +kernel

theorem witness_OriginatedFramesAreValid :
    ({ setpoint with payload := [] } : Originated).payload.length ≤ 496 ∧
    ({ setpoint with payload := List.replicate 496 0 } : Originated).payload.length ≤ 496 := by decide +kernel

theorem witness_MarkedFramesCarryTheirCheck :
    Memory.wf (cellsOf setpoint.bytes) = true ∧ ([0] : List BlockId).Nodup ∧ ([0] : List BlockId).length = blocksFor 12 ∧
    (allBlocks.take 8).Nodup ∧ (allBlocks.take 8).length = blocksFor 508 := by decide +kernel

theorem witness_SubstitutionReplacesJudgedBitsAlone :
    Memory.wf (cellsOf setpoint.bytes) = true ∧ (inBlock0 setpoint.bytes).blocks.Nodup ∧
    (inBlock0 setpoint.bytes).blocks.length = blocksFor (inBlock0 setpoint.bytes).total ∧
    10 + widthBytes .two ≤ (inBlock0 setpoint.bytes).total ∧ 16 + widthBytes .two ≤ (inBlock0 setpoint.bytes).total ∧
    (screened.desc = inBlock0 setpoint.bytes ∧ screened.slots[0] = some ⟨500, 10, .two, 0xFFFF⟩ ∧
      screened.slots[1] = none) := by
  decide +kernel

/-- On the blank frame of 12 bytes: the first window beyond it, the last inside it, a miss, and cursors at the limit. -/
theorem witness_OneEvaluation :
    (12 < 8 + widthBytes .one + 4) ∧ (7 + widthBytes .one + 4 ≤ 12) ∧
    (windowValue [] ⟨.a, 12, [0]⟩ 7 .one &&& 0 = 0) ∧ ¬ (0 : Word) ≠ 0 ∧ 508 < 508 + (1 : Byte).toNat ∧ 508 ≤ 508 := by
  decide +kernel

theorem witness_ExaminationTestsTheReferenceConditions :
    (0 < (bankOf 1 1 .powerOn).header.length.val ∧
      (bankOf 1 1 .powerOn).header.length.val ≤ (bankOf 1 1 .powerOn).header.entryA.val) ∧
    examine (bankOf 1 0 .powerOn) = .passed ∧
    examine (bankOf 1 0 { Entry.powerOn with matchArg := 1 }) = .failed 0 .targetRange ∧
    examine (bankOf 1 0 { Entry.powerOn with offset := 501, width := .four }) = .failed 0 .windowRange := by
  decide +kernel

/-- The walk at the take of a frame of port A under a bank. -/
def taken (b : Bank) : Walk := ⟨.bank0, b.header, entryPoint b.header .a, 8, 0, noSlots⟩

/-- The last entry point below the length and the first beyond it; a spent budget; and each outcome of an evaluation. -/
theorem witness_WalksKeepTheirBudget_steps :
    (taken .powerOn).header.length.val = 0 ∧
    (taken (bankOf 2 1 .powerOn)).entry < (taken (bankOf 2 1 .powerOn)).header.length.val ∧
    (taken (bankOf 2 2 .powerOn)).header.length.val ≤ (taken (bankOf 2 2 .powerOn)).entry ∧
    ({ taken (bankOf 2 1 .powerOn) with steps := 32 } : Walk).steps = (taken (bankOf 2 1 .powerOn)).header.budget ∧
    (taken (bankOf 2 1 .powerOn)).steps < (taken (bankOf 2 1 .powerOn)).header.budget ∧
    evaluate [] ⟨.a, 12, [0]⟩ { Entry.powerOn with offset := 8 } 8 noSlots = .fault .windowRange ∧
    (∀ k, evaluate [] ⟨.a, 12, [0]⟩ { Entry.powerOn with matchAction := k, matchArg := 1 } 8 noSlots = .act k 1 8 noSlots) ∧
    (1 : ClassId).val = (1 : Byte).toNat % 32 := by
  refine ⟨?_, ?_, ?_, ?_, ?_, ?_, fun k => ?_, ?_⟩
  case refine_7 => cases k <;> decide +kernel
  all_goals decide +kernel

theorem witness_WalksKeepTheirBudget :
    examine (bankOf 1 0 .powerOn) = .passed ∧ (∀ e ∈ (bankOf 1 0 .powerOn).entries.toList, legalEntry e = true) ∧
    walkEnd [] ⟨.a, 12, [0]⟩ (bankOf 1 0 .powerOn) (taken (bankOf 1 0 .powerOn)) = .fault .stepBudget 0 32 ∧
    walkEnd [] ⟨.a, 12, [0]⟩ (bankOf 1 0 { Entry.powerOn with matchAction := .accept, matchArg := 1 })
      (taken (bankOf 1 0 { Entry.powerOn with matchAction := .accept, matchArg := 1 })) = .verdict .accept 1 noSlots 1 := by
  decide +kernel

theorem witness_ValuesAreJudged :
    legalConfig watch = true ∧ watch.kind = .above ∧ legalConfig { watch with kind := .below } = true ∧
    judge watch 101 = .offending ∧ judge watch 100 = .band ∧ judge watch 91 = .band ∧ judge watch 90 = .qualifying ∧
    judge { watch with kind := .below } 99 = .offending ∧ judge { watch with kind := .below } 109 = .band ∧
    judge { watch with kind := .below } 110 = .qualifying := by decide +kernel

/-- Every state of a monitor exists, each judgement can fall, and each time of the record can be 0 or not. -/
theorem witness_FramesMoveTheirMonitors :
    (∀ st, (inState st).state = st) ∧
    (watch.kind = .above ∧ ({ watch with kind := .stale } : MonitorConfig).kind = .stale ∧
      screened.slots[watch.slot] = some ⟨500, 10, .two, 0xFFFF⟩ ∧ noSlots[watch.slot] = none) ∧
    judge watch 101 = .offending ∧ judge watch 100 = .band ∧ judge watch 90 = .qualifying ∧
    watch.tripDelay ≠ 0 ∧ MonitorConfig.powerOn.tripDelay = 0 ∧ judge MonitorConfig.powerOn 1 = .offending ∧
    watch.recoveryTime ≠ 0 ∧ MonitorConfig.powerOn.recoveryTime = 0 ∧ judge MonitorConfig.powerOn 0 = .qualifying :=
  ⟨fun _ => rfl, by decide +kernel⟩

theorem witness_TripsAreCountedAgainstTheLimit :
    MonitorConfig.powerOn.latchLimit.val = 0 ∧ (inState .normal).latchCounter + 1 < watch.latchLimit.val ∧
    ({ inState .normal with latchCounter := 1 } : MonitorRuntime).latchCounter + 1 = watch.latchLimit.val := by
  decide +kernel

/-- Class 5 with monitor 0 TRIPPED and a consequence, under an override. -/
def tripped (k : Consequence) (o : Override) : State :=
  { withMonitor0 { watch with consequence := k } (inState .tripped) up with
    classes := up.classes.set 5 ⟨o, [⟨0, k, 0⟩], effectiveOf o [⟨0, k, 0⟩]⟩ }

theorem witness_DispositionsAreTheMostSevere :
    (DispositionsDerived (tripped .block .forcePass) ∧ ((tripped .block .forcePass).classState 5).override = .forcePass) ∧
    (DispositionsDerived (tripped .note .forceBlock) ∧ ((tripped .note .forceBlock).classState 5).override = .forceBlock) ∧
    ∀ k, DispositionsDerived (tripped k .auto) ∧ ((tripped k .auto).classState 5).override = .auto ∧
      ((tripped k .auto).monitor 0).config.cls = 5 ∧ ((tripped k .auto).monitor 0).config.consequence = k ∧
      ((tripped k .auto).monitor 0).run.state = .tripped := by
  refine ⟨⟨by unfold DispositionsDerived; decide +kernel, by decide +kernel⟩,
    ⟨by unfold DispositionsDerived; decide +kernel, by decide +kernel⟩, fun k => ?_⟩
  unfold DispositionsDerived
  cases k <;> decide +kernel

theorem witness_LowestNumberedMonitorSupplies :
    DispositionsDerived (tripped .substitute .auto) ∧ (0, 60) ∈ (tripped .substitute .auto).rewrites 5 := by
  unfold DispositionsDerived
  decide +kernel

/-- A queued record of a kind with a repeat. -/
def queued (kind : EventKind) (repeats : Nat) : Queued := ⟨⟨0, 0, kind, 0, repeats, 1, 0⟩, false⟩

theorem witness_EventsAreStoredCoalescedOrLost :
    (([queued .frameDiscard 254] : List Queued) = [] ++ queued .frameDiscard 254 :: [] ∧
      (queued .frameDiscard 254).record.repeats < 255) ∧
    (∀ x ∈ [queued .frameDiscard 255], ¬ x.record.repeats < 255) ∧
    ([] : List Queued).length + (List.replicate 31 (queued .linkUp 1)).length < 32 ∧
    32 ≤ ([] : List Queued).length + (List.replicate 32 (queued .linkUp 1)).length := by decide +kernel

theorem witness_CountersWrapAndFlag :
    (CounterId.screen .stepBudget) ≠ CounterId.screen .windowRange := by decide +kernel

theorem witness_LinkChangesAreRecorded :
    (up.link.get .a).recorded = .up ∧ (State.reset.link.get .a).recorded = .down ∧
    (State.reset.link.get .a).down = .none := by decide +kernel

/-- Port A DOWN, with every block still to take the change. -/
def cut : State := { up with link := ⟨⟨.down, 0, ⟨true, true, true, true, true⟩⟩, up.link.b⟩ }

theorem witness_BlocksTakeAChangeToDown :
    (cut.link.get .a).down = ⟨true, true, true, true, true⟩ ∧
    ({ cut with receivers := working.receivers } : State).receivers.get .a =
      .receiving ⟨2, [4], [7, 9].foldl crcByte 0xFFFFFFFF⟩ ∧
    cut.receivers.get .a = .idle ∧ cut.transmitters.get .a = .idle ∧
    ({ cut with transmitters := .both (.sending (.forwarded screened)) } : State).transmitters.get .a =
      .sending (.forwarded screened) ∧
    ({ cut with transmitters := .both (.sending (.response setpoint)) } : State).transmitters.get .a =
      .sending (.response setpoint) ∧
    ({ cut with transmitters := .both (.sending (.notice setpoint)) } : State).transmitters.get .a =
      .sending (.notice setpoint) ∧
    ({ cut with notice := working.notice } : State).isNoticePort .a = true ∧ cut.isNoticePort .a = false ∧
    (up.link.get .a).down = ⟨false, false, false, false, false⟩ := by decide +kernel

theorem witness_ChangesToDownCommute :
    Instr.flush .a ∈ [Instr.receiverLinkDown .a, .transmitterLinkDown .a, .flush .a, .slotFreeAtLinkDown .a, .noticePortDown .a]
    ∧ (cut.link.get .a).down = ⟨true, true, true, true, true⟩ := by decide +kernel

/-- A port receiving a frame at a byte count, with the blocks for it. -/
def receiving (count : Nat) : State :=
  { up with
    receivers := ⟨.receiving ⟨count, allBlocks.take (blocksFor count), 0⟩, .discarding⟩
    store := { up.store with free := allBlocks.drop (blocksFor count), share := ⟨blocksFor count, 0⟩ } }

theorem witness_FramesAreTakenBlockByBlock :
    State.reset.receivers.get .a = .down ∧ up.receivers.get .a = .idle ∧ (receiving 0).receivers.get .b = .discarding ∧
    (receiving 508).receivers.get .a = .receiving ⟨508, allBlocks.take 8, 0⟩ ∧
    ((receiving 0).receivers.get .a = .receiving ⟨0, [], 0⟩ ∧ (receiving 0).store.free ≠ [] ∧
      Memory.wf (receiving 0).store.bytes = true ∧ 0 = 64 * ([] : List BlockId).length) ∧
    ((receiving 448).receivers.get .a = .receiving ⟨448, allBlocks.take 7, 0⟩ ∧ 448 % 64 = 0 ∧
      (receiving 448).store.share.get .a < 64 ∧ 448 = 64 * (allBlocks.take 7).length) ∧
    64 ≤ ({ receiving 0 with store := { up.store with share := .both 64 } } : State).store.share.get .a ∧
    ({ receiving 0 with store := { up.store with free := [] } } : State).store.free = [] := by decide +kernel

/-- A frame at its end at the receiver of port A. -/
def atEnd (bytes : List Byte) : State :=
  { holding0 bytes with receivers := ⟨.receiving ⟨bytes.length, [0], 0⟩, .idle⟩ }

theorem witness_FramesAreJudgedAtTheirEnd :
    (atEnd setpoint.bytes).receivers.get .a = .receiving ⟨18, [0], 0⟩ ∧
    firstFailure true setpoint.bytes = some .rxLengthError ∧
    firstFailure false (setpoint.bytes.take 11) = some .rxLengthError ∧
    firstFailure false (setpoint.bytes.set 10 2) = some .rxCheckError ∧ firstFailure false setpoint.bytes = none ∧
    (∀ ty ∈ [0xF0, 0xF1, 0xF3], firstFailure false ({ setpoint with dest := 254, ftype := ty } : Originated).bytes = none ∧
      byteAt ({ setpoint with dest := 254, ftype := ty } : Originated).bytes 2 = ty) ∧
    (atEnd setpoint.bytes).frameByte (inBlock0 setpoint.bytes) 0 ≠ (atEnd setpoint.bytes).agent.ownAddress ∧
    ((atEnd setpoint.bytes).store.ready.get .a).length < 16 ∧
    16 ≤ (({ atEnd setpoint.bytes with
      store := { up.store with ready := .both (List.replicate 16 ⟨.a, 12, []⟩) } } : State).store.ready.get .a).length := by
  decide +kernel

/-- A posted switch for a commit. -/
def posted (m : CommitMode) : State :=
  { up with engine := { up.engine with switchPosted := true }, tables := { up.tables with state := .switchPending m } }

/-- Port A's ready list with one frame. -/
def ready : State := { up with store := { up.store with ready := ⟨[⟨.a, 12, []⟩], []⟩ } }

theorem witness_FramesAreTakenInTurn :
    ready.engine.phase = .idle ∧ ready.engine.switchPending = false ∧ ready.store.ready.get .a = [⟨.a, 12, []⟩] ∧
    ready.store.ready.get (opposite .a) = [] ∧ ready.engine.lastServed ≠ .a ∧
    ready.engine.switchPosted = false ∧ (posted .keep).engine.switchPosted = true ∧
    (posted .keep).engine.takeMayPrecede = false ∧ up.store.ready.a = [] ∧
    (ready.bank ready.engine.activeBank).header.length.val ≤ (ready.bank ready.engine.activeBank).header.entryA.val ∧
    (let s : State := { ready with tables := { up.tables with banks := ⟨bankOf 256 255 .powerOn, .powerOn⟩ } }
     (s.bank s.engine.activeBank).header.entryA.val < (s.bank s.engine.activeBank).header.length.val) := by
  decide +kernel

/-- A frame in screening under the repeated power-on entry, which faults, or under the empty program, which does not. -/
def screening (b : Bank) : State :=
  { up with
    engine := { up.engine with phase := .walking ⟨.a, 12, [0]⟩ (taken b) }
    tables := { up.tables with banks := ⟨b, .powerOn⟩ } }

theorem witness_WalksCompleteIntoHolding :
    (∃ d w, (screening .powerOn).engine.phase = .walking d w ∧
      walkEnd [] d ((screening .powerOn).bank w.bank) w = .verdict .accept 0 noSlots 1) ∧
    (∃ d w, (screening (bankOf 1 0 .powerOn)).engine.phase = .walking d w ∧
      walkEnd [] d ((screening (bankOf 1 0 .powerOn)).bank w.bank) w = .fault .stepBudget 0 32) ∧
    (screening .powerOn).engine.switchPosted = false ∧ (screening .powerOn).engine.switchPending = false ∧
    ∀ d, ({ screening .powerOn with
      engine := { (screening .powerOn).engine with switchPending := true, switchPosted := d } } : State).engine.switchPending =
        true :=
  ⟨⟨_, _, rfl, by decide +kernel⟩, ⟨_, _, rfl, by decide +kernel⟩, rfl, rfl, fun _ => rfl⟩

theorem witness_SwitchesAreMadeBetweenWalks :
    (∀ m, (posted m).engine.switchPosted = true ∧ (posted m).engine.phase = .idle ∧
      (posted m).tables.state = .switchPending m) ∧
    ∃ d w, ({ posted .keep with engine := { (screening .powerOn).engine with switchPosted := true } } : State).engine.phase =
      .walking d w := ⟨fun _ => ⟨rfl, rfl, rfl⟩, _, _, rfl⟩

/-- A frame held for the monitors, in a class with a disposition. -/
def held (d : Screened) (k : Disposition) (l : List Engaged) : State :=
  { up with
    engine := { up.engine with phase := .holding d none 1 }
    classes := up.classes.set 5 ⟨.auto, l, k⟩ }

theorem monitorsTake_of_off (s : State) (d : Screened) (h : ∀ m, (s.monitor m).run.state = .off) :
    s.monitorsTake d = s := by
  unfold State.monitorsTake
  induction List.finRange 48 with
  | nil => rfl
  | cons m ms ih => simpa [State.monitorTakes, h m] using ih

theorem held_monitorsTake (d x : Screened) (k : Disposition) (l : List Engaged) :
    (held d k l).monitorsTake x = held d k l :=
  monitorsTake_of_off _ _ fun m => by simp [held, up, State.reset, State.monitor, Monitor.powerOn, MonitorRuntime.off]

theorem witness_FramesAreDecidedAfterTheirMonitors :
    (∀ k l, (held sampled k l).engine.phase = .holding sampled none 1 ∧
      (held sampled k l).monitorsTake sampled = held sampled k l ∧
      ((held sampled k l).classState sampled.cls).effective = k) ∧
    sampled.verdict = .accept ∧ ({ sampled with verdict := .drop } : Screened).verdict = .drop ∧
    ((held sampled .substitute [⟨0, .substitute, 1⟩]).rewrites 5 = [(1, 0)] ∧ sampled.slots[1] = none) ∧
    ((held sampled .substitute [⟨0, .substitute, 0⟩]).rewrites 5 = [(0, 0)] ∧ sampled.slots[0] ≠ none) ∧
    (State.reset.link.get (opposite sampled.desc.ingress)).recorded = .down ∧
    (up.link.get (opposite sampled.desc.ingress)).recorded = .up ∧
    (up.store.forward.get (opposite sampled.desc.ingress)).length < 24 ∧ 24 ≤ (List.replicate 24 sampled).length :=
  ⟨fun _ _ => ⟨rfl, held_monitorsTake _ _ _ _, by simp [held, State.classState, sampled]⟩, by decide +kernel⟩

theorem witness_PurgesEmptyBothQueues :
    (5 : ClassId) ∈ ({ up with store := { up.store with purges := [5] } } : State).store.purges := by decide +kernel

/-- Port B with a forward queue, responses and a notice. -/
def requesting (queue : List Screened) (r : List HeldResponse) (n : Option NoticeFrame) (run : Nat) : State :=
  { up with
    store := { up.store with forward := ⟨[], queue⟩ }
    agent := { up.agent with responses := r }
    notice := { up.notice with frame := n }
    runCount := ⟨0, run⟩ }

theorem witness_PortsGrantByPrecedence :
    (({ up with link := State.reset.link } : State).link.get .b).recorded = .down ∧
    up.transmitters.get .b = .idle ∧ (up.link.get .b).recorded = .up ∧
    ((requesting [screened] [⟨.b, setpoint, true⟩, ⟨.b, setpoint, false⟩] none 2).agent.responses =
      [⟨.b, setpoint, true⟩] ++ ⟨.b, setpoint, false⟩ :: [] ∧
      (requesting [screened] [⟨.b, setpoint, true⟩, ⟨.b, setpoint, false⟩] none 2).runCount.get .b < 3) ∧
    ((requesting [] [] (some ⟨setpoint, .b, false⟩) 0).notice.frame = some ⟨setpoint, .b, false⟩ ∧
      (requesting [] [] (some ⟨setpoint, .b, false⟩) 0).store.forward.get .b = []) ∧
    ((requesting [screened] [] none 3).store.forward.get .b = [screened] ∧
      3 ≤ (requesting [screened] [] none 3).runCount.get .b) ∧
    (requesting [] [] none 0).store.forward.get .b = [] := by decide +kernel

theorem witness_TransmissionsEnd :
    ∀ f, ({ up with transmitters := ⟨.idle, .sending f⟩ } : State).transmitters.get .b = .sending f := fun _ => rfl

theorem witness_TimersRunAndExpire :
    (∀ r, (withMonitor0 watch r up).monitor 0 = ⟨watch, r⟩) ∧
    ({ inState .alert with delay := some 0 } : MonitorRuntime).delay = some 0 ∧ watch.tripDelay ≠ 0 ∧
    ({ watch with tripDelay := 0 } : MonitorConfig).tripDelay = 0 := ⟨fun _ => rfl, by decide +kernel⟩

/-- An ACTIVE notice sender with a retry count and a timer. -/
def sending (retries : Nat) (timer : Timer) : State :=
  { up with
    notice := { up.notice with state := .active, destination := some ⟨12, .a⟩, retries := retries, timer := timer } }

theorem witness_NoticesAreFormedAndRepeated :
    ((sending 0 none).notice.state = .active ∧ (sending 0 none).notice.frame = none ∧
      (sending 0 none).notice.destination = some ⟨12, .a⟩ ∧ (sending 0 none).events.unsent ≠ []) ∧
    ({ sending 0 none with events := { up.events with unsent := [] } } : State).nextRecords = [] ∧
    ((sending 4 (some 0)).notice.timer = some 0 ∧ (sending 4 (some 0)).notice.retries < 5) ∧
    ((sending 5 (some 0)).notice.timer = some 0 ∧ 5 ≤ (sending 5 (some 0)).notice.retries) := by decide +kernel

/-- The RESTARTED record. -/
def queued0 : Queued := ⟨⟨0, 0, .restarted, 0, 1, 1, 0⟩, false⟩

/-- An acknowledgement through record 0, handed over from port A, with record 0 outstanding. -/
def acknowledging (bytes : List Byte) : State :=
  { holding0 bytes with
    notice := { (sending 0 (some 9)).notice with inbox := ⟨[inBlock0 bytes], []⟩ }
    events := { up.events with outstanding := up.events.unsent, unsent := [] } }

theorem witness_AcknowledgementsClearRecords :
    let ack : Originated := ⟨254, 12, 0xF3, 0, [0, 0]⟩
    let s := acknowledging ack.bytes
    (s.notice.inbox.get .a = inBlock0 ack.bytes :: [] ∧
      s.notice.destination = some ⟨s.frameByte (inBlock0 ack.bytes) 1, (inBlock0 ack.bytes).ingress⟩ ∧
      14 ≤ (inBlock0 ack.bytes).total ∧ s.events.outstanding = [] ++ queued0 :: [] ∧
      queued0.record.seq = s.frameByte (inBlock0 ack.bytes) 8 ++ s.frameByte (inBlock0 ack.bytes) 9) ∧
    (inBlock0 ({ ack with payload := [0] } : Originated).bytes).total < 14 ∧
    ({ s with notice := { s.notice with destination := none } } : State).notice.destination ≠
      some ⟨s.frameByte (inBlock0 ack.bytes) 1, .a⟩ := by decide +kernel

/-- A request frame handed over from port A. -/
def arriving (f : Originated) (a : Agent) : State :=
  { holding0 f.bytes with agent := { a with inbox := ⟨[inBlock0 f.bytes], []⟩ } }

theorem witness_RequestsAreAdmitted :
    let f : Originated := ⟨254, 12, 0xF0, 7, [1, 2, 0x28, 5, 2]⟩
    let s := arriving f up.agent
    let r := s.requestOf (inBlock0 f.bytes)
    let e : CacheEntry := ⟨.a, 12, 0x0102, setpoint⟩
    s.agent.inbox.get .a = [inBlock0 f.bytes] ∧ s.agent.portSet.get .a = true ∧ 15 ≤ (inBlock0 f.bytes).total ∧
    ({ up.agent with portSet := ⟨false, true⟩ } : Agent).portSet.get .a = false ∧
    (inBlock0 ({ f with payload := [1, 2] } : Originated).bytes).total < 15 ∧
    s.agent.sources = [] ∧ r.source ∉ [(9 : Byte)] ∧ r.command ≠ 0x01 ∧
    s.agent.slotsInUse < 4 ∧ 4 ≤ ({ up.agent with responses := List.replicate 4 ⟨.a, setpoint, false⟩ } : Agent).slotsInUse ∧
    (s.link.get .a).recorded = .up ∧
    ({ up.agent with cache := [e] } : Agent).cached r = some e ∧ s.agent.cached r = none ∧
    (({ up.agent with requests := [r] } : Agent).inFlight r = true ∧ s.agent.inFlight r = false) ∧
    (List.replicate 4 (ask 1 [])).length = 4 ∧ s.agent.requests.length < 4 := by decide +kernel

theorem asking_executes (code : Byte) (args : List Byte) : (asking code args).Executes (ask code args) code :=
  ⟨rfl, rfl, (by decide : 0 < 4)⟩

theorem witness_OnlyTheHeadRequestExecutes :
    up.agent.requests = [] ∧
    4 ≤ ({ up.agent with responses := List.replicate 4 ⟨.a, setpoint, false⟩ } : Agent).slotsInUse ∧
    ((asking 0x01 [9]).agent.requests.head? = some (ask 0x01 [9]) ∧ (asking 0x01 [9]).agent.slotsInUse < 4 ∧
      (ask 0x01 [9]).command = 0x01 ∧ (ask 0x01 [9]).args.length ≠ 0) ∧
    (ask 0x01 []).command ≠ 0x02 ∧ (ask 0x7F []).command ∉ commandCodes := by decide +kernel

theorem witness_TheAgentObeys :
    (asking 0x01 []).Executes (ask 0x01 []) 0x01 ∧
    (∀ v, (asking 0x02 [v]).Executes (ask 0x02 [v]) 0x02 ∧ (ask 0x02 [v]).args = [v]) ∧
    ((asking 0x03 [1]).Executes (ask 0x03 [1]) 0x03 ∧ (ask 0x03 [1]).args.length < 2) ∧
    ∀ ports n l, (asking 0x03 (ports :: n :: l)).Executes (ask 0x03 (ports :: n :: l)) 0x03 ∧
      (ask 0x03 (ports :: n :: l)).args = ports :: n :: l :=
  ⟨asking_executes _ _, fun _ => ⟨asking_executes _ _, rfl⟩, ⟨asking_executes _ _, by decide⟩,
    fun _ _ _ => ⟨asking_executes _ _, rfl⟩⟩

/-- The table service in a state with a verify state, asked for something. -/
def serving (code : Byte) (args : List Byte) (st : TableState) (v : VerifyState) : State :=
  { asking code args with tables := { up.tables with state := st, verify := v } }

theorem witness_TheTableServiceObeys :
    (∀ code args st v, (serving code args st v).Executes (ask code args) code ∧ (ask code args).args = args ∧
      (serving code args st v).tables.state = st ∧ (serving code args st v).tables.verify = v) ∧
    headerOf [1, 0, 255, 255, 64, 1] ≠ none ∧ headerOf [1, 1, 0, 0, 1, 0] = none ∧
    entryOf (List.replicate 16 0) ≠ none ∧ entryOf (List.replicate 16 0xFF) = none :=
  ⟨fun _ _ _ _ => ⟨⟨rfl, rfl, (by decide : 0 < 4)⟩, rfl, rfl, rfl⟩, by decide +kernel⟩

theorem witness_ResultsFollowLater :
    (serving 0x14 [] .verifying .unverified).tables.state = .verifying ∧
    (serving 0x14 [] .copying .unverified).tables.state = .copying ∧
    (let s : State := { up with
      tables := { up.tables with reports := [.committed .bank1] }
      agent := { up.agent with pendingResults := [⟨.a, 12, 7, 0x0102, 0x15, true⟩] } }
     s.tables.reports = .committed .bank1 :: [] ∧
       s.agent.pendingResults = ⟨.a, 12, 7, 0x0102, 0x15, true⟩ :: []) := ⟨rfl, rfl, rfl, rfl⟩

theorem witness_MonitorsAndClassesObey :
    (∀ code args st, (withMonitor0 watch (inState st) (asking code args)).Executes (ask code args) code ∧
      (ask code args).args = args ∧
      ((withMonitor0 watch (inState st) (asking code args)).monitor 0).run.state = st) ∧
    (configBytes watch).length = 26 ∧ configOf (configBytes watch) ≠ none ∧ configOf (List.replicate 26 0xFF) = none ∧
    48 ≤ (48 : Byte).toNat ∧ 32 ≤ (32 : Byte).toNat ∧ 2 < (3 : Byte).toNat :=
  ⟨fun _ _ _ => ⟨⟨rfl, rfl, (by decide : 0 < 4)⟩, rfl, rfl⟩, by decide +kernel⟩

theorem witness_ReportsShowTheState :
    (asking 0x30 []).Executes (ask 0x30 []) 0x30 ∧
    (∀ x y, (asking 0x31 [x, y]).Executes (ask 0x31 [x, y]) 0x31 ∧ (ask 0x31 [x, y]).args = [x, y]) ∧
    36 < (37 : Byte).toNat ∧ (33 : Byte).toNat = 2 + (31 : ClassId).val :=
  ⟨asking_executes _ _, fun _ _ => ⟨asking_executes _ _, rfl⟩, by decide⟩

theorem witness_TheNoticeSenderObeys :
    (∀ args, (asking 0x38 args).Executes (ask 0x38 args) 0x38 ∧ (ask 0x38 args).args = args) ∧
    (asking 0x39 []).Executes (ask 0x39 []) 0x39 ∧ (asking 0x39 []).notice.state = .off ∧
    ({ asking 0x39 [] with notice := (sending 0 none).notice } : State).notice.state ≠ .off ∧ (1 : Byte) = portCode .b :=
  ⟨fun _ => ⟨asking_executes _ _, rfl⟩, asking_executes _ _, by decide +kernel⟩

theorem witness_RestartKeepsWhatItShould :
    (asking 0x3F []).Executes (ask 0x3F []) 0x3F ∧ (ask 0x3F []).args = [] := ⟨asking_executes _ _, rfl⟩

end Sys2Proof.Tests
end

section
/-! PROOFS. Chapter 3, the screening program: window values (R42) and the examination of a bank (R49, R125). -/

namespace Sys2Proof.Machine

/-! ## Window values (R42) -/

/-- Take one more byte into a window value, as its least significant byte. -/
def pushByte (v : Word) (x : Byte) : Word := (v <<< 8) ||| x.setWidth 32

/-- As long as nothing is shifted out, a byte taken in is a digit of base 256. -/
theorem pushByte_toNat {v : Word} (x : Byte) (h : v.toNat < 2 ^ 24) :
    (pushByte v x).toNat = 256 * v.toNat + x.toNat := by
  have hx : x.toNat < 2 ^ 8 := x.isLt
  have hshift : v.toNat <<< 8 % 2 ^ 32 = 2 ^ 8 * v.toNat := by
    rw [Nat.shiftLeft_eq, Nat.mod_eq_of_lt (by omega), Nat.mul_comm]
  rw [pushByte, BitVec.toNat_or, BitVec.toNat_shiftLeft, hshift, BitVec.toNat_setWidth,
    Nat.mod_eq_of_lt (by omega : x.toNat < 2 ^ 32), ← Nat.two_pow_add_eq_or_of_lt hx]

theorem windowValue_one_toNat (cells : List Host.Cell) (d : Descriptor) (i : Nat) :
    (windowValue cells d i .one).toNat = (frameByte cells d i).toNat := by
  change (pushByte 0 (frameByte cells d i)).toNat = _
  simp [pushByte_toNat]

theorem windowValue_two (cells : List Host.Cell) (d : Descriptor) (i : Nat) :
    windowValue cells d i .two = pushByte (windowValue cells d i .one) (frameByte cells d (i + 1)) := rfl

theorem windowValue_two_toNat (cells : List Host.Cell) (d : Descriptor) (i : Nat) :
    (windowValue cells d i .two).toNat = 256 * (frameByte cells d i).toNat + (frameByte cells d (i + 1)).toNat := by
  have hone := windowValue_one_toNat cells d i
  have hbyte := (frameByte cells d i).isLt
  rw [windowValue_two, pushByte_toNat _ (by omega), hone]

theorem windowValue_four (cells : List Host.Cell) (d : Descriptor) (i : Nat) :
    windowValue cells d i .four =
      pushByte (pushByte (windowValue cells d i .two) (frameByte cells d (i + 2))) (frameByte cells d (i + 3)) := rfl

theorem windowValue_four_toNat (cells : List Host.Cell) (d : Descriptor) (i : Nat) :
    (windowValue cells d i .four).toNat = 16777216 * (frameByte cells d i).toNat +
      65536 * (frameByte cells d (i + 1)).toNat + 256 * (frameByte cells d (i + 2)).toNat +
      (frameByte cells d (i + 3)).toNat := by
  have htwo := windowValue_two_toNat cells d i
  have hbyte0 := (frameByte cells d i).isLt
  have hbyte1 := (frameByte cells d (i + 1)).isLt
  have hbyte2 := (frameByte cells d (i + 2)).isLt
  have hthree := pushByte_toNat (frameByte cells d (i + 2)) (v := windowValue cells d i .two) (by omega)
  rw [windowValue_four, pushByte_toNat _ (by omega), hthree, htwo]
  omega

theorem windowValue_one_lt (cells : List Host.Cell) (d : Descriptor) (i : Nat) :
    (windowValue cells d i .one).toNat < 2 ^ 8 := by
  rw [windowValue_one_toNat]
  exact (frameByte cells d i).isLt

theorem windowValue_two_lt (cells : List Host.Cell) (d : Descriptor) (i : Nat) :
    (windowValue cells d i .two).toNat < 2 ^ 16 := by
  have hbyte0 := (frameByte cells d i).isLt
  have hbyte1 := (frameByte cells d (i + 1)).isLt
  rw [windowValue_two_toNat]
  omega

/-- Mask bits from position `n` on meet only zeros in a value of `n` bits. -/
theorem and_mask_low {v low : Word} {n : Nat} (mask : Word) (hv : v.toNat < 2 ^ n) (hlow : low.toNat = 2 ^ n - 1) :
    v &&& mask = v &&& (mask &&& low) := by
  have hkept : v &&& low = v := by
    apply BitVec.eq_of_toNat_eq
    rw [BitVec.toNat_and, hlow, Nat.and_two_pow_sub_one_of_lt_two_pow hv]
  rw [BitVec.and_comm mask low, ← BitVec.and_assoc, hkept]

/-- Settles O24: each byte taken in is one more digit of base 256, and the masks are cut at the bound of the value. -/
theorem windowsReadMostSignificantFirst : Obligations.WindowsReadMostSignificantFirst := fun cells d i mask =>
  ⟨windowValue_one_toNat cells d i, windowValue_two_toNat cells d i, windowValue_four_toNat cells d i,
    and_mask_low mask (windowValue_one_lt cells d i) (by decide),
    and_mask_low mask (windowValue_two_lt cells d i) (by decide)⟩

/-! ## The conditions on one entry (R49) -/

/-- A NEXT target of the entry lies at or beyond the length. -/
def Entry.BadTarget (length : Nat) (e : Entry) : Prop :=
  (e.matchAction = .next ∧ length ≤ e.matchArg.toNat) ∨ (e.missAction = .next ∧ length ≤ e.missArg.toNat)

/-- The window is addressed from the start of the frame and ends beyond the largest frame. -/
def Entry.BadWindow (e : Entry) : Prop := e.base = .frame ∧ 504 < e.offset.val + widthBytes e.width

theorem windowBytes_eq_widthBytes (w : Width) : windowBytes w = widthBytes w := by
  cases w <;> rfl

theorem targetBelow_eq_false_iff (length : Nat) (act : Action) (arg : Byte) :
    targetBelow length act arg = false ↔ act = .next ∧ length ≤ arg.toNat := by
  cases act <;> simp [targetBelow]

theorem entryFault_of_badTarget {length : Nat} {e : Entry} (h : e.BadTarget length) :
    entryFault length e = some .targetRange := by
  simp only [Entry.BadTarget, ← targetBelow_eq_false_iff] at h
  obtain hmatch | hmiss := h
  · simp [entryFault, hmatch]
  · simp [entryFault, hmiss]

/-- With its targets below the length, an entry is judged by its window alone. -/
theorem entryFault_of_not_badTarget {length : Nat} {e : Entry} (h : ¬ e.BadTarget length) :
    entryFault length e =
      if e.base = .frame ∧ 504 < e.offset.val + widthBytes e.width then some .windowRange else none := by
  simp only [Entry.BadTarget, ← targetBelow_eq_false_iff, not_or, Bool.not_eq_false] at h
  obtain ⟨hmatch, hmiss⟩ := h
  simp [entryFault, hmatch, hmiss, Config.maxWindowEnd, windowBytes_eq_widthBytes]

theorem entryFault_of_badWindow {length : Nat} {e : Entry} (ht : ¬ e.BadTarget length) (hw : e.BadWindow) :
    entryFault length e = some .windowRange := by
  rw [entryFault_of_not_badTarget ht]
  exact if_pos hw

theorem entryFault_eq_none_iff (length : Nat) (e : Entry) :
    entryFault length e = none ↔ ¬ e.BadTarget length ∧ ¬ e.BadWindow := by
  by_cases ht : e.BadTarget length
  · simp [entryFault_of_badTarget ht, ht]
  · simp [entryFault_of_not_badTarget ht, ht, Entry.BadWindow]

/-! ## The examination of a list of entries (R125) -/

/-- An entry without a fault is passed over. -/
theorem examineEntries_cons_of_none {length : Nat} {e : Entry} (h : entryFault length e = none) (i : Nat)
    (es : List Entry) : examineEntries length i (e :: es) = examineEntries length (i + 1) es := by
  simp [examineEntries, h]

theorem examineEntries_cons_of_some {length : Nat} {e : Entry} {r : FailReason} (h : entryFault length e = some r)
    (i : Nat) (es : List Entry) : examineEntries length i (e :: es) = .failed i r := by
  simp [examineEntries, h]

theorem examineEntries_eq_passed_iff (length : Nat) (es : List Entry) (i : Nat) :
    examineEntries length i es = .passed ↔ ∀ e ∈ es, entryFault length e = none := by
  induction es generalizing i with
  | nil => simp [examineEntries]
  | cons e es ih =>
    cases hfault : entryFault length e with
    | none => simp [examineEntries_cons_of_none hfault, ih, hfault]
    | some r => simp [examineEntries_cons_of_some hfault, hfault]

/-- The first entry with a fault is the one that is reported, with its index. -/
theorem examineEntries_eq_failed {length : Nat} {r : FailReason} {es : List Entry} {k : Nat} (i : Nat)
    (hk : k < es.length) (hbefore : ∀ j (hj : j < k), entryFault length es[j] = none)
    (hfault : entryFault length es[k] = some r) :
    examineEntries length i es = .failed (i + k) r := by
  induction es generalizing i k with
  | nil => simp at hk
  | cons e es ih =>
    cases k with
    | zero => exact examineEntries_cons_of_some hfault i es
    | succ k =>
      have hrest := ih (i + 1) (Nat.lt_of_succ_lt_succ hk)
        (fun j hj => hbefore (j + 1) (Nat.succ_lt_succ hj)) hfault
      have hhead : entryFault length e = none := hbefore 0 k.succ_pos
      rw [examineEntries_cons_of_none hhead, hrest, Nat.add_right_comm, Nat.add_assoc]

/-! ## The examination of a bank (R49, R125) -/

/-- The program is not empty and one of its entry points lies at or beyond the length. -/
def Bank.BadHeader (b : Bank) : Prop :=
  0 < b.header.length.val ∧
    (b.header.length.val ≤ b.header.entryA.val ∨ b.header.length.val ≤ b.header.entryB.val)

/-- The entries that form the bank's program (R36). -/
def Bank.program (b : Bank) : List Entry := b.entries.toList.take b.header.length.val

/-- The entry at an index of the bank; beyond its 256 entries, the power-on entry. -/
def Bank.entryAt (b : Bank) (i : Nat) : Entry := b.entries[i]?.getD .powerOn

theorem Bank.program_length (b : Bank) : b.program.length = b.header.length.val := by
  have := b.header.length.isLt
  simp [Bank.program]
  omega

theorem Bank.program_getElem (b : Bank) (i : Nat) (h : i < b.program.length) : b.program[i] = b.entryAt i := by
  have hlength := b.program_length
  have hmax := b.header.length.isLt
  have hi : i < 256 := by omega
  simp [Bank.program, Bank.entryAt, hi]

theorem examine_of_badHeader {b : Bank} (h : b.BadHeader) : examine b = .failed 256 .entryRange := if_pos h

theorem examine_of_not_badHeader {b : Bank} (h : ¬ b.BadHeader) :
    examine b = examineEntries b.header.length.val 0 b.program := if_neg h

theorem examine_eq_passed_iff (b : Bank) :
    examine b = .passed ↔ ¬ b.BadHeader ∧ ∀ i, i < b.header.length.val →
      ¬ (b.entryAt i).BadTarget b.header.length.val ∧ ¬ (b.entryAt i).BadWindow := by
  by_cases hheader : b.BadHeader
  · simp [examine_of_badHeader hheader, hheader]
  · simp [examine_of_not_badHeader hheader, hheader, examineEntries_eq_passed_iff, List.forall_mem_iff_getElem,
      b.program_getElem, b.program_length, entryFault_eq_none_iff]

/-- Behind a good header, the first entry with a fault is reported with its index and its first reason. -/
theorem examine_eq_failed {b : Bank} {i : Nat} {r : FailReason} (hheader : ¬ b.BadHeader)
    (hi : i < b.header.length.val)
    (hbefore : ∀ j, j < i → ¬ (b.entryAt j).BadTarget b.header.length.val ∧ ¬ (b.entryAt j).BadWindow)
    (hfault : entryFault b.header.length.val (b.entryAt i) = some r) : examine b = .failed i r := by
  have hlast : i < b.program.length := by rwa [b.program_length]
  have hfail : examineEntries b.header.length.val 0 b.program = .failed (0 + i) r := by
    refine examineEntries_eq_failed 0 hlast (fun j hj => ?_) ?_
    · rw [b.program_getElem, entryFault_eq_none_iff]
      exact hbefore j hj
    · rwa [b.program_getElem]
  rw [examine_of_not_badHeader hheader, hfail, Nat.zero_add]

/-- Settles O26: the header is tested first, then the program's entries by induction on their list. -/
theorem examinationTestsTheReferenceConditions : Obligations.ExaminationTestsTheReferenceConditions := fun b =>
  ⟨examine_eq_passed_iff b, examine_of_badHeader, fun _ hheader hi hbefore =>
    ⟨fun ht => examine_eq_failed hheader hi hbefore (entryFault_of_badTarget ht),
      fun ht hw => examine_eq_failed hheader hi hbefore (entryFault_of_badWindow ht hw)⟩⟩

end Sys2Proof.Machine
end

section
/-! PROOFS. Chapter 5, monitors: the judgement of a value (R69, R75). -/

namespace Sys2Proof.Machine

/-- Of two tests in turn, the first decides offending and the second tells the band from qualifying. -/
theorem ite_judgement_eq_iff (p q : Prop) [Decidable p] [Decidable q] :
    ((if p then Judgement.offending else if q then .band else .qualifying) = .offending ↔ p) ∧
    ((if p then Judgement.offending else if q then .band else .qualifying) = .band ↔ ¬ p ∧ q) ∧
    ((if p then Judgement.offending else if q then .band else .qualifying) = .qualifying ↔ ¬ p ∧ ¬ q) := by
  by_cases hp : p
  · simp [hp]
  · by_cases hq : q <;> simp [hp, hq]

theorem hysteresis_le_threshold_of_above {c : MonitorConfig} (hlegal : legalConfig c = true)
    (hkind : c.kind = .above) : c.hysteresis.toNat ≤ c.threshold.toNat := by
  simp only [legalConfig, hkind, Bool.and_eq_true, decide_eq_true_eq] at hlegal
  exact hlegal.left

/-- A legal ABOVE record's hysteresis can be subtracted from its threshold, so it can be added to the value instead. -/
theorem judge_of_above {c : MonitorConfig} (hlegal : legalConfig c = true) (hkind : c.kind = .above) (v : Word) :
    judge c v =
      if c.threshold.toNat < v.toNat then .offending
      else if c.threshold.toNat < v.toNat + c.hysteresis.toNat then .band else .qualifying := by
  simp only [judge, hkind, Nat.sub_lt_iff_lt_add (hysteresis_le_threshold_of_above hlegal hkind)]

theorem judge_of_below {c : MonitorConfig} (hkind : c.kind = .below) (v : Word) :
    judge c v =
      if v.toNat < c.threshold.toNat then .offending
      else if v.toNat < c.threshold.toNat + c.hysteresis.toNat then .band else .qualifying := by
  simp only [judge, hkind]

/-- Settles O28: the two tests of each kind read as the three ranges; only ABOVE needs the record to be legal. -/
theorem valuesAreJudged : Obligations.ValuesAreJudged := by
  refine fun c v hlegal => ⟨fun habove => ?_, fun hbelow => ?_⟩
  · obtain ⟨hoffending, hband, hqualifying⟩ := ite_judgement_eq_iff
      (c.threshold.toNat < v.toNat) (c.threshold.toNat < v.toNat + c.hysteresis.toNat)
    rw [judge_of_above hlegal habove, hoffending, hband, hqualifying]
    omega
  · obtain ⟨hoffending, hband, hqualifying⟩ := ite_judgement_eq_iff
      (v.toNat < c.threshold.toNat) (v.toNat < c.threshold.toNat + c.hysteresis.toNat)
    rw [judge_of_below hbelow, hoffending, hband, hqualifying]
    omega

end Sys2Proof.Machine
end

section
/-! PROOFS. Chapter 12, wire formats: what each decoder answers, and that decoding and encoding agree (R35, R39, R69). -/

namespace Sys2Proof.Machine

set_option Elab.async false

/-! ## Codes of single fields -/

theorem below_eq_some_iff {bound n : Nat} {i : Fin bound} : below bound n = some i ↔ n = i.val := by
  unfold below
  split
  · rw [Option.some_inj, Fin.ext_iff]
  · have := i.isLt
    simp only [reduceCtorEq, false_iff]
    omega

theorem widthOf_eq_some_iff {n : Nat} {w : Width} : widthOf n = some w ↔ n = widthCode w := by
  unfold widthOf
  split <;> cases w <;> simp_all [widthCode]

theorem testOf_eq_some_iff {n : Nat} {x : Test} : testOf n = some x ↔ n = testCode x := by
  unfold testOf
  split <;> cases x <;> simp_all [testCode]

theorem cursorModeOf_eq_some_iff {n : Nat} {x : CursorMode} : cursorModeOf n = some x ↔ n = cursorModeCode x := by
  unfold cursorModeOf
  split <;> cases x <;> simp_all [cursorModeCode]

theorem actionOf_eq_some_iff {n : Nat} {x : Action} : actionOf n = some x ↔ n = actionCode x := by
  unfold actionOf
  split <;> cases x <;> simp_all [actionCode]

theorem extractOf_eq_some_iff {n : Nat} {x : Option (Fin 4)} : extractOf n = some x ↔ n = extractCode x := by
  cases n with
  | zero => cases x <;> simp [extractOf, extractCode]
  | succ n => cases x <;> simp [extractOf, extractCode, below_eq_some_iff]

theorem kindOf_eq_some_iff {b : Byte} {k : MonitorKind} : kindOf b = some k ↔ b = kindCode k := by
  revert b; cases k <;> decide

theorem consequenceOf_eq_some_iff {b : Byte} {k : Consequence} : consequenceOf b = some k ↔ b = consequenceCode k := by
  revert b; cases k <;> decide

theorem boolOf_eq_some_iff {b : Byte} {x : Bool} : boolOf b = some x ↔ b = flagByte x := by
  revert b; cases x <;> decide

theorem portOf_eq_some_iff {b : Byte} {p : Port} : portOf b = some p ↔ b = portCode p := by
  revert b; cases p <;> decide

theorem classOf_eq_some_iff {b : Byte} {c : ClassId} : classOf b = some c ↔ b.toNat = c.val := below_eq_some_iff

theorem monitorOf_eq_some_iff {b : Byte} {m : MonitorId} : monitorOf b = some m ↔ b.toNat = m.val := below_eq_some_iff

/-- The byte of a fault disposition (section 12.3). -/
def FaultDisposition.code : FaultDisposition → Byte
  | .forwardUnclassified => 0
  | .dropUnclassified => 1

/-- The top bit of an entry's third byte (section 12.3). -/
def Base.bit : Base → Nat
  | .frame => 0
  | .cursor => 1

/-! ## Multi-byte fields -/

@[simp] theorem be16_length (v : Half) : (be16 v).length = 2 := rfl
@[simp] theorem be32_length (v : Word) : (be32 v).length = 4 := rfl
@[simp] theorem le32_length (v : Word) : (le32 v).length = 4 := rfl

theorem toNat_append_byte {n : Nat} (x : BitVec n) (y : Byte) : (x ++ y).toNat = 256 * x.toNat + y.toNat := by
  rw [BitVec.toNat_append, ← Nat.shiftLeft_add_eq_or_of_lt y.isLt, Nat.shiftLeft_eq, Nat.mul_comm]

theorem extract_byte_toNat {n : Nat} (v : BitVec n) (k : Nat) :
    (v.extractLsb' k 8).toNat = v.toNat / 2 ^ k % 256 := by
  rw [BitVec.extractLsb'_toNat, Nat.shiftRight_eq_div_pow]

theorem halfAt_toNat (bs : List Byte) (i : Nat) :
    (halfAt bs i).toNat = 256 * (byteAt bs i).toNat + (byteAt bs (i + 1)).toNat := toNat_append_byte _ _

theorem wordAt_toNat (bs : List Byte) (i : Nat) :
    (wordAt bs i).toNat = 16777216 * (byteAt bs i).toNat + 65536 * (byteAt bs (i + 1)).toNat +
      256 * (byteAt bs (i + 2)).toNat + (byteAt bs (i + 3)).toNat := by
  have hall : (wordAt bs i).toNat = 256 * (byteAt bs i ++ byteAt bs (i + 1) ++ byteAt bs (i + 2)).toNat + _ :=
    toNat_append_byte _ (byteAt bs (i + 3))
  have hthree := toNat_append_byte (byteAt bs i ++ byteAt bs (i + 1)) (byteAt bs (i + 2))
  have htwo := toNat_append_byte (byteAt bs i) (byteAt bs (i + 1))
  omega

/-- The two bytes of a field, put together again. -/
theorem be16_join (v : Half) : (v.extractLsb' 8 8 ++ v.extractLsb' 0 8 : Half) = v := by
  have hjoin := toNat_append_byte (v.extractLsb' 8 8) (v.extractLsb' 0 8)
  have hhigh := extract_byte_toNat v 8
  have hlow := extract_byte_toNat v 0
  have hv := v.isLt
  apply BitVec.eq_of_toNat_eq
  omega

/-- The four bytes of a field, put together again. -/
theorem be32_join (v : Word) :
    (v.extractLsb' 24 8 ++ v.extractLsb' 16 8 ++ v.extractLsb' 8 8 ++ v.extractLsb' 0 8 : Word) = v := by
  have hall := toNat_append_byte (v.extractLsb' 24 8 ++ v.extractLsb' 16 8 ++ v.extractLsb' 8 8) (v.extractLsb' 0 8)
  have hthree := toNat_append_byte (v.extractLsb' 24 8 ++ v.extractLsb' 16 8) (v.extractLsb' 8 8)
  have htwo := toNat_append_byte (v.extractLsb' 24 8) (v.extractLsb' 16 8)
  have h3 := extract_byte_toNat v 24
  have h2 := extract_byte_toNat v 16
  have h1 := extract_byte_toNat v 8
  have h0 := extract_byte_toNat v 0
  have hv := v.isLt
  apply BitVec.eq_of_toNat_eq
  omega

theorem be16_halfAt (bs : List Byte) (i : Nat) : be16 (halfAt bs i) = [byteAt bs i, byteAt bs (i + 1)] := by
  have hv := halfAt_toNat bs i
  have hhigh := extract_byte_toNat (halfAt bs i) 8
  have hlow := extract_byte_toNat (halfAt bs i) 0
  simp only [be16, List.cons.injEq, and_true]
  constructor <;> apply BitVec.eq_of_toNat_eq <;> omega

theorem be32_wordAt (bs : List Byte) (i : Nat) :
    be32 (wordAt bs i) = [byteAt bs i, byteAt bs (i + 1), byteAt bs (i + 2), byteAt bs (i + 3)] := by
  have hv := wordAt_toNat bs i
  have h3 := extract_byte_toNat (wordAt bs i) 24
  have h2 := extract_byte_toNat (wordAt bs i) 16
  have h1 := extract_byte_toNat (wordAt bs i) 8
  have h0 := extract_byte_toNat (wordAt bs i) 0
  simp only [be32, List.cons.injEq, and_true]
  refine ⟨?_, ?_, ?_, ?_⟩ <;> apply BitVec.eq_of_toNat_eq <;> omega

theorem byteOf_toNat (n : Nat) : (byteOf n).toNat = n % 256 := BitVec.toNat_ofNat n 8

@[simp] theorem byteOf_byte_toNat (b : Byte) : byteOf b.toNat = b := by simp [byteOf]

/-! ## Bank headers (R35) -/

/-- The fault disposition that a byte encodes. -/
def dispositionOf (b : Byte) : Option FaultDisposition :=
  if b = 0 then some .forwardUnclassified else if b = 1 then some .dropUnclassified else none

theorem dispositionOf_eq_some_iff {b : Byte} {x : FaultDisposition} : dispositionOf b = some x ↔ b = x.code := by
  revert b; cases x <;> decide

theorem headerOf_eq (bs : List Byte) : headerOf bs =
    (below 257 (halfAt bs 0).toNat).bind fun length => (dispositionOf (byteAt bs 5)).bind fun disposition =>
      if 1 ≤ (byteAt bs 4).toNat ∧ (byteAt bs 4).toNat ≤ 64 then
        some { length := length, entryA := (byteAt bs 2).toFin, entryB := (byteAt bs 3).toFin
               budget := (byteAt bs 4).toNat, faultDisposition := disposition }
      else none := by
  simp only [headerOf, dispositionOf, Option.bind_eq_bind]
  congr 1
  funext length
  split
  · rfl
  · split <;> rfl

theorem headerOf_eq_some_iff {bs : List Byte} {h : Header} : headerOf bs = some h ↔
    (halfAt bs 0).toNat = h.length.val ∧ (byteAt bs 2).toFin = h.entryA ∧ (byteAt bs 3).toFin = h.entryB ∧
      (byteAt bs 4).toNat = h.budget ∧ byteAt bs 5 = h.faultDisposition.code ∧ 1 ≤ h.budget ∧ h.budget ≤ 64 := by
  simp only [headerOf_eq, Option.bind_eq_some_iff, below_eq_some_iff, dispositionOf_eq_some_iff]
  constructor
  · rintro ⟨length, hlength, disposition, hdisposition, h⟩
    split at h
    · cases h
      exact ⟨hlength, rfl, rfl, rfl, hdisposition, ‹_›⟩
    · cases h
  · rintro ⟨hlength, ha, hb, hbudget, hdisposition, hlow, hhigh⟩
    refine ⟨_, hlength, _, hdisposition, ?_⟩
    rw [if_pos (by omega), ha, hb, hbudget]

theorem headerBytes_eq (h : Header) : headerBytes h =
    be16 (BitVec.ofNat 16 h.length.val) ++
      [byteOf h.entryA.val, byteOf h.entryB.val, byteOf h.budget, h.faultDisposition.code] := by
  cases hd : h.faultDisposition <;> simp [headerBytes, hd, FaultDisposition.code]

theorem headerOf_headerBytes {h : Header} (hlow : 1 ≤ h.budget) (hhigh : h.budget ≤ 64) :
    headerOf (headerBytes h) = some h := by
  have hlength := h.length.isLt
  rw [headerOf_eq_some_iff, headerBytes_eq]
  refine ⟨?_, Fin.ext ?_, Fin.ext ?_, ?_, rfl, hlow, hhigh⟩
  · refine (congrArg BitVec.toNat (be16_join _)).trans ?_
    rw [BitVec.toNat_ofNat]
    omega
  · exact (byteOf_toNat _).trans (Nat.mod_eq_of_lt h.entryA.isLt)
  · exact (byteOf_toNat _).trans (Nat.mod_eq_of_lt h.entryB.isLt)
  · exact (byteOf_toNat _).trans (Nat.mod_eq_of_lt (by omega))

/-- A list is the list of its bytes. -/
theorem eq_map_byteAt {n : Nat} {bs : List Byte} (h : bs.length = n) : bs = (List.range n).map (byteAt bs) := by
  subst h
  apply List.ext_getElem
  · simp
  · intro i hi _
    simp [byteAt, hi]

theorem headerBytes_of_headerOf {bs : List Byte} {h : Header} (hbs : bs.length = 6) (e : headerOf bs = some h) :
    headerBytes h = bs := by
  obtain ⟨hlength, ha, hb, hbudget, hdisposition, -, -⟩ := headerOf_eq_some_iff.1 e
  rw [headerBytes_eq, ← hlength, ← ha, ← hb, ← hbudget, ← hdisposition, BitVec.ofNat_toNat, BitVec.setWidth_eq,
    be16_halfAt]
  conv_rhs => rw [eq_map_byteAt hbs]
  simp [List.range_succ]

/-! ## Entries (R39) -/

/-- The third byte of an entry: base, width, test and cursor mode. -/
def Entry.shape (e : Entry) : Nat :=
  128 * e.base.bit + 32 * widthCode e.width + 4 * testCode e.test + cursorModeCode e.cursorMode

/-- The thirteenth byte of an entry: its two actions. -/
def Entry.actions (e : Entry) : Nat := 4 * actionCode e.matchAction + actionCode e.missAction

theorem widthCode_lt (w : Width) : widthCode w < 3 := by cases w <;> decide
theorem testCode_lt (x : Test) : testCode x < 5 := by cases x <;> decide
theorem cursorModeCode_lt (x : CursorMode) : cursorModeCode x < 3 := by cases x <;> decide
theorem actionCode_lt (x : Action) : actionCode x < 3 := by cases x <;> decide
theorem Base.bit_lt (x : Base) : x.bit < 2 := by cases x <;> decide
theorem extractCode_lt (x : Option (Fin 4)) : extractCode x < 5 := by
  cases x with
  | none => decide
  | some i => simp only [extractCode]; omega

theorem base_eq_iff {n : Nat} (hn : n < 2) {x : Base} : (if n = 0 then Base.frame else .cursor) = x ↔ n = x.bit := by
  cases x <;> simp [Base.bit]
  omega

theorem field_lt (b : Byte) (low width : Nat) : field b low width < 2 ^ width := Nat.mod_lt _ (Nat.two_pow_pos width)

/-- A byte is its bit fields, as an entry's third byte is cut. -/
theorem byte_shape (b : Byte) :
    b.toNat = 128 * field b 7 1 + 32 * field b 5 2 + 4 * field b 2 3 + field b 0 2 := by
  have := b.isLt
  simp only [field]
  omega

/-- A byte is its bit fields, as an entry's thirteenth byte is cut. -/
theorem byte_actions (b : Byte) : b.toNat = 16 * field b 4 4 + 4 * field b 2 2 + field b 0 2 := by
  have := b.isLt
  simp only [field]
  omega

theorem entryOf_eq_some_iff {bs : List Byte} {e : Entry} : entryOf bs = some e ↔
    (halfAt bs 0).toNat = e.offset.val ∧ (byteAt bs 2).toNat = e.shape ∧ (byteAt bs 3).toNat = extractCode e.extract ∧
      wordAt bs 4 = e.mask ∧ wordAt bs 8 = e.operand ∧ (byteAt bs 12).toNat = e.actions ∧
      byteAt bs 13 = e.matchArg ∧ byteAt bs 14 = e.missArg ∧ byteAt bs 15 = e.cursorConst ∧ legalEntry e = true := by
  have hshape := byte_shape (byteAt bs 2)
  have hactions := byte_actions (byteAt bs 12)
  simp only [entryOf, Option.bind_eq_bind, Option.bind_eq_some_iff, below_eq_some_iff, widthOf_eq_some_iff,
    testOf_eq_some_iff, cursorModeOf_eq_some_iff, extractOf_eq_some_iff, actionOf_eq_some_iff]
  constructor
  · rintro ⟨offset, hoffset, width, hwidth, test, htest, mode, hmode, extract, hextract, hit, hhit, miss, hmiss, h⟩
    generalize hbase : (if field (byteAt bs 2) 7 1 = 0 then Base.frame else Base.cursor) = base at h
    rw [base_eq_iff (field_lt _ _ _)] at hbase
    split at h
    · rename_i hlegal
      cases h
      refine ⟨hoffset, ?_, hextract, rfl, rfl, ?_, rfl, rfl, rfl, hlegal.2⟩
      · simp only [Entry.shape]; omega
      · simp only [Entry.actions]; omega
    · cases h
  · rintro ⟨hoffset, hs, hextract, hmask, hoperand, ha, hmatch, hmiss, hconst, hlegal⟩
    have hw := widthCode_lt e.width
    have ht := testCode_lt e.test
    have hm := cursorModeCode_lt e.cursorMode
    have hb := e.base.bit_lt
    have hma := actionCode_lt e.matchAction
    have hmi := actionCode_lt e.missAction
    have hfw := field_lt (byteAt bs 2) 5 2
    have hft := field_lt (byteAt bs 2) 2 3
    have hfm := field_lt (byteAt bs 2) 0 2
    have hfa := field_lt (byteAt bs 12) 2 2
    have hfi := field_lt (byteAt bs 12) 0 2
    rw [Entry.shape] at hs
    rw [Entry.actions] at ha
    have hbase := (base_eq_iff (x := e.base) (field_lt (byteAt bs 2) 7 1)).2 (by omega)
    refine ⟨_, hoffset, e.width, by omega, e.test, by omega, e.cursorMode, by omega, _, hextract,
      e.matchAction, by omega, e.missAction, by omega, ?_⟩
    rw [hbase, hmask, hoperand, hmatch, hmiss, hconst, if_pos ⟨by omega, hlegal⟩]

theorem entryBytes_eq (e : Entry) : entryBytes e =
    be16 (BitVec.ofNat 16 e.offset.val) ++ [byteOf e.shape, byteOf (extractCode e.extract)] ++ be32 e.mask ++
      be32 e.operand ++ [byteOf e.actions, e.matchArg, e.missArg, e.cursorConst] := by
  cases hb : e.base <;> simp [entryBytes, Entry.shape, Entry.actions, Base.bit, hb]

theorem entryOf_entryBytes {e : Entry} (h : legalEntry e = true) : entryOf (entryBytes e) = some e := by
  have hoffset := e.offset.isLt
  have hw := widthCode_lt e.width
  have ht := testCode_lt e.test
  have hm := cursorModeCode_lt e.cursorMode
  have hb := e.base.bit_lt
  have hma := actionCode_lt e.matchAction
  have hmi := actionCode_lt e.missAction
  have hx := extractCode_lt e.extract
  rw [entryOf_eq_some_iff, entryBytes_eq]
  simp only [be32, be16, List.cons_append, List.nil_append]
  refine ⟨?_, ?_, ?_, be32_join _, be32_join _, ?_, rfl, rfl, rfl, h⟩
  · refine (congrArg BitVec.toNat (be16_join _)).trans ?_
    rw [BitVec.toNat_ofNat]
    omega
  · refine (byteOf_toNat _).trans (Nat.mod_eq_of_lt ?_)
    simp only [Entry.shape]
    omega
  · exact (byteOf_toNat _).trans (Nat.mod_eq_of_lt (by omega))
  · refine (byteOf_toNat _).trans (Nat.mod_eq_of_lt ?_)
    simp only [Entry.actions]
    omega

theorem entryBytes_of_entryOf {bs : List Byte} {e : Entry} (hbs : bs.length = 16) (h : entryOf bs = some e) :
    entryBytes e = bs := by
  obtain ⟨hoffset, hshape, hextract, hmask, hoperand, hactions, hmatch, hmiss, hconst, -⟩ := entryOf_eq_some_iff.1 h
  rw [entryBytes_eq, ← hoffset, ← hshape, ← hextract, ← hmask, ← hoperand, ← hactions, ← hmatch, ← hmiss, ← hconst,
    BitVec.ofNat_toNat, BitVec.setWidth_eq, be16_halfAt, be32_wordAt, be32_wordAt]
  conv_rhs => rw [eq_map_byteAt hbs]
  simp [List.range_succ]

/-- A decoded entry is legal (R39). -/
theorem legalEntry_of_entryOf {bs : List Byte} {e : Entry} (h : entryOf bs = some e) : legalEntry e = true := by
  obtain ⟨-, -, -, -, -, -, -, -, -, hlegal⟩ := entryOf_eq_some_iff.1 h
  exact hlegal

/-- Settles O19: both directions go through the conditions under which sixteen bytes decode to an entry. -/
theorem entriesRoundTrip : Obligations.EntriesRoundTrip :=
  ⟨fun e h => ⟨by simp [entryBytes_eq], entryOf_entryBytes h⟩,
    fun _ _ hbs h => ⟨entryBytes_of_entryOf hbs h, legalEntry_of_entryOf h⟩⟩

/-! ## Monitor configuration records (R69) -/

theorem configOf_eq_some_iff {bs : List Byte} {c : MonitorConfig} : configOf bs = some c ↔
    (byteAt bs 0).toNat = c.cls.val ∧ byteAt bs 1 = kindCode c.kind ∧ (byteAt bs 2).toNat = c.slot.val ∧
      byteAt bs 3 = consequenceCode c.consequence ∧ wordAt bs 4 = c.threshold ∧ wordAt bs 8 = c.hysteresis ∧
      halfAt bs 12 = c.tripDelay ∧ halfAt bs 14 = c.recoveryTime ∧ wordAt bs 16 = c.substituteValue ∧
      (byteAt bs 20).toNat = c.latchLimit.val ∧ halfAt bs 21 = c.decayInterval ∧ halfAt bs 23 = c.latchExpiry ∧
      byteAt bs 25 = flagByte c.reportAlerts ∧ legalConfig c = true := by
  simp only [configOf, Option.bind_eq_bind, Option.bind_eq_some_iff, classOf_eq_some_iff, kindOf_eq_some_iff,
    below_eq_some_iff, consequenceOf_eq_some_iff, boolOf_eq_some_iff]
  constructor
  · rintro ⟨cls, hcls, kind, hkind, slot, hslot, consequence, hconsequence, limit, hlimit, alerts, halerts, h⟩
    split at h
    · cases h
      exact ⟨hcls, hkind, hslot, hconsequence, rfl, rfl, rfl, rfl, rfl, hlimit, rfl, rfl, halerts, ‹_›⟩
    · cases h
  · rintro ⟨hcls, hkind, hslot, hconsequence, hthreshold, hhysteresis, hdelay, hrecovery, hvalue, hlimit, hdecay,
      hexpiry, halerts, hlegal⟩
    refine ⟨_, hcls, _, hkind, _, hslot, _, hconsequence, _, hlimit, _, halerts, ?_⟩
    rw [hthreshold, hhysteresis, hdelay, hrecovery, hvalue, hdecay, hexpiry, if_pos hlegal]

theorem configOf_configBytes {c : MonitorConfig} (h : legalConfig c = true) : configOf (configBytes c) = some c := by
  have hcls := c.cls.isLt
  have hslot := c.slot.isLt
  have hlimit := c.latchLimit.isLt
  rw [configOf_eq_some_iff]
  simp only [configBytes, be32, be16, List.cons_append, List.nil_append]
  refine ⟨?_, rfl, ?_, rfl, be32_join _, be32_join _, be16_join _, be16_join _, be32_join _, ?_, be16_join _,
    be16_join _, rfl, h⟩
  all_goals exact (byteOf_toNat _).trans (Nat.mod_eq_of_lt (by omega))

theorem configBytes_of_configOf {bs : List Byte} {c : MonitorConfig} (hbs : bs.length = 26) (h : configOf bs = some c) :
    configBytes c = bs := by
  obtain ⟨hcls, hkind, hslot, hconsequence, hthreshold, hhysteresis, hdelay, hrecovery, hvalue, hlimit, hdecay,
    hexpiry, halerts, -⟩ := configOf_eq_some_iff.1 h
  rw [configBytes, ← hcls, ← hkind, ← hslot, ← hconsequence, ← hthreshold, ← hhysteresis, ← hdelay, ← hrecovery,
    ← hvalue, ← hlimit, ← hdecay, ← hexpiry, ← halerts]
  simp only [be16_halfAt, be32_wordAt]
  conv_rhs => rw [eq_map_byteAt hbs]
  simp [List.range_succ]

/-- A decoded configuration record is legal (R69). -/
theorem legalConfig_of_configOf {bs : List Byte} {c : MonitorConfig} (h : configOf bs = some c) :
    legalConfig c = true := by
  obtain ⟨-, -, -, -, -, -, -, -, -, -, -, -, -, hlegal⟩ := configOf_eq_some_iff.1 h
  exact hlegal

/-- A decoded header has a legal step budget (R35). -/
theorem budget_of_headerOf {bs : List Byte} {h : Header} (e : headerOf bs = some h) : 1 ≤ h.budget ∧ h.budget ≤ 64 := by
  obtain ⟨-, -, -, -, -, hbudget⟩ := headerOf_eq_some_iff.1 e
  exact hbudget

/-- Settles O20: each direction goes through the conditions under which the bytes decode. -/
theorem headersAndMonitorRecordsRoundTrip : Obligations.HeadersAndMonitorRecordsRoundTrip :=
  ⟨fun h hlow hhigh => ⟨by simp [headerBytes_eq], headerOf_headerBytes hlow hhigh⟩,
    fun _ _ hbs e => ⟨headerBytes_of_headerOf hbs e, budget_of_headerOf e⟩,
    fun c h => ⟨by simp [configBytes], configOf_configBytes h⟩,
    fun _ _ hbs e => ⟨configBytes_of_configOf hbs e, legalConfig_of_configOf e⟩⟩

end Sys2Proof.Machine
end

section
/-! PROOFS. What each command can change: the parts of the state outside its footprint stay as they are. -/

namespace Sys2Proof.Machine

set_option Elab.async false

/-! ## The parts of the state -/

/-- The parts of the state that the invariants speak of, and the queue of commands. -/
inductive Part where
  | queue | link | receivers | transmitters | bytes | blocks | ready | forward | runCount | engine | tables
  | monitors | classes | events | noticeState | noticeFrame | noticeInbox | access | inbox | requests | responses
  | pendingResults | cache
deriving DecidableEq

/-- The part is the same in both states. -/
def Part.Same (s t : State) : Part → Prop
  | .queue => t.pending = s.pending
  | .link => t.link = s.link
  | .receivers => t.receivers = s.receivers
  | .transmitters => t.transmitters = s.transmitters
  | .bytes => t.store.bytes = s.store.bytes
  | .blocks => t.store.free = s.store.free ∧ t.store.share = s.store.share
  | .ready => t.store.ready = s.store.ready
  | .forward => t.store.forward = s.store.forward
  | .runCount => t.runCount = s.runCount
  | .engine => t.engine = s.engine
  | .tables => t.tables = s.tables
  | .monitors => t.monitors = s.monitors
  | .classes => t.classes = s.classes
  | .events => t.events = s.events
  | .noticeState => t.notice.state = s.notice.state ∧ t.notice.destination = s.notice.destination ∧
      t.notice.timer = s.notice.timer ∧ t.notice.retries = s.notice.retries ∧ t.notice.resend = s.notice.resend
  | .noticeFrame => t.notice.frame = s.notice.frame
  | .noticeInbox => t.notice.inbox = s.notice.inbox
  | .access => t.agent.ownAddress = s.agent.ownAddress ∧ t.agent.portSet = s.agent.portSet ∧
      t.agent.sources = s.agent.sources
  | .inbox => t.agent.inbox = s.agent.inbox
  | .requests => t.agent.requests = s.agent.requests
  | .responses => t.agent.responses = s.agent.responses
  | .pendingResults => t.agent.pendingResults = s.agent.pendingResults
  | .cache => t.agent.cache = s.agent.cache

/-- The two states differ at most in the parts listed. -/
def Within (l : List Part) (s t : State) : Prop := ∀ x, l.contains x = false → x.Same s t

/-- The state `s` with the parts listed, and all that is no part, taken from `t`. -/
def State.mix (l : List Part) (s t : State) : State :=
  let pick := fun {α : Type} (x : Part) (f : State → α) => bif l.contains x then f t else f s
  { t with
    pending := pick .queue (·.pending)
    link := pick .link (·.link)
    receivers := pick .receivers (·.receivers)
    transmitters := pick .transmitters (·.transmitters)
    store :=
      { bytes := pick .bytes (·.store.bytes), free := pick .blocks (·.store.free), share := pick .blocks (·.store.share)
        ready := pick .ready (·.store.ready), forward := pick .forward (·.store.forward), purges := t.store.purges }
    runCount := pick .runCount (·.runCount)
    engine := pick .engine (·.engine)
    tables := pick .tables (·.tables)
    monitors := pick .monitors (·.monitors)
    classes := pick .classes (·.classes)
    events := pick .events (·.events)
    notice :=
      { state := pick .noticeState (·.notice.state), destination := pick .noticeState (·.notice.destination)
        timeout := t.notice.timeout, timer := pick .noticeState (·.notice.timer)
        retries := pick .noticeState (·.notice.retries), resend := pick .noticeState (·.notice.resend)
        frame := pick .noticeFrame (·.notice.frame), inbox := pick .noticeInbox (·.notice.inbox) }
    agent :=
      { ownAddress := pick .access (·.agent.ownAddress), portSet := pick .access (·.agent.portSet)
        sources := pick .access (·.agent.sources), inbox := pick .inbox (·.agent.inbox)
        requests := pick .requests (·.agent.requests), responses := pick .responses (·.agent.responses)
        pendingResults := pick .pendingResults (·.agent.pendingResults), cache := pick .cache (·.agent.cache) } }

/-- A state that is a mixture of itself with `s` differs from `s` at most in the parts taken from it. -/
theorem Within.of_mix {l : List Part} {s t : State} (h : t = s.mix l t) : Within l s t := by
  intro x hx
  rw [h]
  cases x <;> simp only [Part.Same, State.mix, hx, cond_false, and_self]

theorem Part.same_trans {s t u : State} {x : Part} (h : x.Same s t) (h' : x.Same t u) : x.Same s u := by
  cases x <;> simp_all [Part.Same]

theorem Within.refl (l : List Part) (s : State) : Within l s s := fun x _ => by cases x <;> simp [Part.Same]

theorem Within.trans {l : List Part} {s t u : State} (h : Within l s t) (h' : Within l t u) : Within l s u :=
  fun x hx => Part.same_trans (h x hx) (h' x hx)

theorem Within.mono {l l' : List Part} {s t : State} (hl : l ⊆ l') (h : Within l s t) : Within l' s t := by
  intro x hx
  refine h x ?_
  simp only [List.contains_eq_mem, decide_eq_false_iff_not] at hx ⊢
  exact fun hmem => hx (hl hmem)

end Sys2Proof.Machine
end

section
/-! PROOFS. The executions of chapter 11: what the owning block of each command does to the state, said once. -/

namespace Sys2Proof.Machine

set_option Elab.async false

/-! ## What an answered or an accepted request does -/

/-- What a command that is answered at once does to the state of its owning block (R163, R167). -/
inductive Effect (s : State) : Instr → State → Prop
  | unchanged (c : Instr) : Effect s c s
  | ownAddress {v : Byte} (hzero : v ≠ 0) (hlast : v ≠ 255) :
      Effect s .setAddress { s with agent := { s.agent with ownAddress := v } }
  | access {ports : PerPort Bool} {sources : List Byte} (hports : ports.a = true ∨ ports.b = true)
      (hfew : sources.length ≤ 4) (hdistinct : sources.Nodup) (hlast : (255 : Byte) ∉ sources) :
      Effect s .setAccess { s with agent := { s.agent with portSet := ports, sources := sources } }
  | header {h : Header} (hidle : s.tables.state = .idle) (hlow : 1 ≤ h.budget) (hhigh : h.budget ≤ 64) :
      Effect s .writeHeader (s.writeShadow { s.bank s.shadow with header := h })
  | entries {first : Nat} {es : List Entry} (hidle : s.tables.state = .idle)
      (hlegal : ∀ e ∈ es, legalEntry e = true) :
      Effect s .writeEntries
        (s.writeShadow { s.bank s.shadow with entries := writeEntriesFrom first es (s.bank s.shadow).entries })
  | config {m : MonitorId} {c : MonitorConfig} (hoff : (s.monitor m).run.state = .off)
      (hlegal : legalConfig c = true) : Effect s .writeMonitor (s.setMonitor m { s.monitor m with config := c })
  | start {m : MonitorId} (hoff : (s.monitor m).run.state = .off) :
      Effect s .startMonitor (s.setMonitor m { s.monitor m with run := started (s.monitor m).config })
  | stop {m : MonitorId} (hon : (s.monitor m).run.state ≠ .off) :
      Effect s .stopMonitor
        (s.makeTransition m ⟨.off, none, if isEngaged (s.monitor m).run.state then some false else none⟩)
  | release {m : MonitorId} (hlatched : (s.monitor m).run.state = .latched) :
      Effect s .releaseMonitor (s.makeTransition m (releaseLatch (s.monitor m).config (s.monitor m).run 1))
  | override (c : ClassId) (o : Override) :
      Effect s .setOverride ((s.setClass c { s.classState c with override := o }).recompute c 256)
  | clear (g : Group) : Effect s .readCounters { s with counters := clearGroup s.counters g }
  | destination (dst : Destination) (timeout : Nat) : Effect s .setNotice (s.setDestination dst timeout)
  | noDestination (timeout : Nat) : Effect s .setNotice (s.clearDestination timeout)
  | resumeEmpty (hon : s.notice.state ≠ .off) (hempty : s.events.outstanding = []) :
      Effect s .resumeNotice { s with notice := { s.notice with state := .active, timer := none, retries := 0 } }
  | resume (hon : s.notice.state ≠ .off) :
      Effect s .resumeNotice
        { s.makeAllDue with notice := { s.makeAllDue.notice with state := .active, timer := none, retries := 0 } }

/-- What a command that is accepted, with a result to come, does (R124, R126). -/
inductive Acceptance (s : State) : Instr → State → Prop
  | verify (hidle : s.tables.state = .idle) :
      Acceptance s .verify { s with tables := { s.tables with state := .verifying, verify := .unverified } }
  | commit (mode : CommitMode) (hidle : s.tables.state = .idle) (hpassed : s.tables.verify = .passed) :
      Acceptance s .commit { s with
        tables := { s.tables with state := .switchPending mode }
        engine := { s.engine with switchPosted := true, takeMayPrecede := s.takeMeetsRequest } }

/-- The owning block's answer to command `c` in state `s` leaves what the command's effect leaves. -/
def Reply.Fits (s : State) (c : Instr) : Reply → Prop
  | .done _ t => Effect s c t
  | .refused _ => True
  | .accepted t => Acceptance s c t

/-! ## The answers of the owning blocks -/

theorem withLength_fits {n : Nat} {r : Request} {k : Unit → Reply} {s : State} {c : Instr} (h : (k ()).Fits s c) :
    (withLength n r k).Fits s c := by
  unfold withLength
  split
  · exact h
  · trivial

theorem withMonitor_fits {r : Request} {k : MonitorId → Reply} {s : State} {c : Instr} (h : ∀ m, (k m).Fits s c) :
    (withMonitor r k).Fits s c := by
  unfold withMonitor
  split
  · trivial
  · exact h _

theorem setAccess_fits (r : Request) (s : State) : (setAccess r s).Fits s .setAccess := by
  simp only [setAccess]
  split
  · trivial
  rename_i hlength
  split
  · trivial
  rename_i hlegal
  split
  · trivial
  rename_i hset
  split
  · trivial
  split
  · trivial
  simp only [not_or, not_not, Nat.not_lt, List.contains_eq_mem, decide_eq_true_eq, Ne] at hlegal hlength
  obtain ⟨hfield, hfew, hlast, hdistinct⟩ := hlegal
  refine .access ?_ (by rw [List.length_drop]; omega) hdistinct hlast
  revert hfield hset
  generalize byteAt r.args 0 = b
  revert b
  decide

theorem writeHeader_fits (r : Request) (s : State) : (writeHeader r s).Fits s .writeHeader := by
  unfold writeHeader
  split
  · trivial
  rename_i hidle
  split
  · trivial
  rename_i h hh
  obtain ⟨hlow, hhigh⟩ := budget_of_headerOf hh
  exact .header (by simpa [State.tablesIdle] using hidle) hlow hhigh

theorem entriesOf_legal {n : Nat} {bs : List Byte} {es : List Entry} (h : entriesOf n bs = some es) :
    ∀ e ∈ es, legalEntry e = true := by
  induction n generalizing bs es with
  | zero => simp_all [entriesOf]
  | succ n ih =>
    simp only [entriesOf, Option.bind_eq_bind, Option.bind_eq_some_iff] at h
    obtain ⟨e, he, rest, hrest, h⟩ := h
    cases h
    rintro x (_ | ⟨_, hx⟩)
    · exact legalEntry_of_entryOf he
    · exact ih hrest x hx

theorem writeEntries_fits (r : Request) (s : State) : (writeEntries r s).Fits s .writeEntries := by
  simp only [writeEntries]
  split
  · trivial
  split
  · trivial
  split
  · trivial
  rename_i hidle
  split
  · trivial
  · exact .entries (by simpa [State.tablesIdle] using hidle) (entriesOf_legal ‹_›)

theorem readHeader_fits (r : Request) (s : State) : (readHeader r s).Fits s .readHeader := by
  unfold readHeader
  split
  · trivial
  split
  · trivial
  · exact .unchanged _

theorem readEntries_fits (r : Request) (s : State) : (readEntries r s).Fits s .readEntries := by
  simp only [readEntries]
  split
  · trivial
  split
  · trivial
  split
  · trivial
  · exact .unchanged _

theorem verify_fits (s : State) : (verify s).Fits s .verify := by
  unfold verify
  split
  · trivial
  · rename_i hidle
    exact .verify (by simpa [State.tablesIdle] using hidle)

theorem commit_fits (r : Request) (s : State) : (commit r s).Fits s .commit := by
  unfold commit
  split
  · trivial
  split
  · trivial
  rename_i hidle
  split
  · trivial
  · rename_i hpassed
    exact .commit _ (by simpa [State.tablesIdle] using hidle) (not_not.1 hpassed)

theorem writeMonitor_fits (r : Request) (s : State) : (writeMonitor r s).Fits s .writeMonitor := by
  refine withMonitor_fits fun m => ?_
  split
  · trivial
  rename_i hoff
  split
  · trivial
  · exact .config (not_not.1 hoff) (legalConfig_of_configOf ‹_›)

theorem startMonitor_fits (r : Request) (s : State) : (startMonitor r s).Fits s .startMonitor := by
  refine withMonitor_fits fun m => ?_
  dsimp only
  split
  · trivial
  · rename_i hoff
    exact .start (not_not.1 hoff)

theorem stopMonitor_fits (r : Request) (s : State) : (stopMonitor r s).Fits s .stopMonitor := by
  refine withMonitor_fits fun m => ?_
  dsimp only
  split
  · exact .unchanged _
  · exact .stop ‹_›

theorem releaseMonitor_fits (r : Request) (s : State) : (releaseMonitor r s).Fits s .releaseMonitor := by
  refine withMonitor_fits fun m => ?_
  dsimp only
  split
  · trivial
  · rename_i hlatched
    exact .release (not_not.1 hlatched)

theorem setOverride_fits (r : Request) (s : State) : (setOverride r s).Fits s .setOverride := by
  unfold setOverride
  split
  · exact .override _ _
  · trivial

theorem setNotice_fits (r : Request) (s : State) : (setNotice r s).Fits s .setNotice := by
  simp only [setNotice]
  split
  · trivial
  split
  · exact .noDestination _
  · split
    · trivial
    · exact .destination _ _
  · trivial

theorem resumeNotice_fits (s : State) : (resumeNotice s).Fits s .resumeNotice := by
  simp only [resumeNotice]
  split
  · exact .unchanged _
  split
  · exact .resumeEmpty ‹_› ‹_›
  · exact .resume ‹_›

/-! ## The execution of a command -/

/-- What the execution of command `c` leads to from `s` (R163): nothing, where it does not start; or the head request
leaves the queue, its owning block has the command's effect, and it is answered; or it is accepted and its slot
reserved. -/
def Executed (c : Instr) (s s' : State) : Prop :=
  s' = s ∨ ∃ r rest, s.agent.requests = r :: rest ∧ s.agent.slotsInUse < Config.responseSlots ∧
    ((∃ t u results, Effect s.dequeue c t ∧ (u ≠ .done → t = s.dequeue ∧ results = []) ∧ s' = t.answered r u results) ∨
      ∃ t, Acceptance s.dequeue c t ∧ s' = (t.reserve r).endExecution r)

theorem Agent.slotFree_iff (a : Agent) : a.slotFree = true ↔ a.slotsInUse < Config.responseSlots := by
  simp [Agent.slotFree]

/-- An execution whose owning block answers as command `c` does. -/
theorem execute_executed {c : Instr} {runs : Byte → Bool} {body : Request → State → Reply} {s : State}
    (h : ∀ r, (body r s.dequeue).Fits s.dequeue c) : Executed c s (s.execute runs body) := by
  rcases State.execute_cases runs body s with e | ⟨r, rest, hr, -, hfree, e⟩
  · exact .inl e
  refine .inr ⟨r, rest, hr, (Agent.slotFree_iff _).1 hfree, ?_⟩
  have hfits := h r
  rcases e with ⟨b, t, hb, e⟩ | ⟨u, -, e⟩ | ⟨t, hb, e⟩
  · rw [hb] at hfits
    exact .inl ⟨t, .done, b, hfits, fun hu => absurd rfl hu, e⟩
  · exact .inl ⟨_, u, [], .unchanged c, fun _ => ⟨rfl, rfl⟩, e⟩
  · rw [hb] at hfits
    exact .inr ⟨t, hfits, e⟩

theorem executeCode_executed {c : Instr} {code : Byte} {n : Nat} {body : Request → State → Reply} {s : State}
    (h : ∀ r, (body r s.dequeue).Fits s.dequeue c) : Executed c s (s.executeCode code n body) :=
  execute_executed fun r => withLength_fits (h r)

/-- What the execution of a request, RESTART apart, leads to. -/
theorem exec_executed {c : Instr} (hc : c ∈ requestCommands) (s : State) : ∃ t, exec c s = .next t ∧ Executed c s t := by
  simp only [requestCommands, List.mem_cons, List.not_mem_nil, or_false] at hc
  rcases hc with rfl | rfl | rfl | rfl | rfl | rfl | rfl | rfl | rfl | rfl | rfl | rfl | rfl | rfl | rfl | rfl | rfl |
    rfl | rfl | rfl
  case _ => exact ⟨_, rfl, executeCode_executed fun _ => .unchanged _⟩
  case _ =>
    refine ⟨_, rfl, executeCode_executed fun r => ?_⟩
    dsimp only
    split
    · trivial
    · rename_i hv
      rw [not_or] at hv
      exact .ownAddress hv.1 hv.2
  case _ => exact ⟨_, rfl, execute_executed fun r => setAccess_fits r _⟩
  case _ => exact ⟨_, rfl, executeCode_executed fun r => readHeader_fits r _⟩
  case _ => exact ⟨_, rfl, executeCode_executed fun r => writeHeader_fits r _⟩
  case _ => exact ⟨_, rfl, executeCode_executed fun r => readEntries_fits r _⟩
  case _ => exact ⟨_, rfl, execute_executed fun r => writeEntries_fits r _⟩
  case _ => exact ⟨_, rfl, executeCode_executed fun _ => verify_fits _⟩
  case _ => exact ⟨_, rfl, executeCode_executed fun r => commit_fits r _⟩
  case _ => exact ⟨_, rfl, executeCode_executed fun r => withMonitor_fits fun m => .unchanged _⟩
  case _ => exact ⟨_, rfl, executeCode_executed fun r => writeMonitor_fits r _⟩
  case _ => exact ⟨_, rfl, executeCode_executed fun r => startMonitor_fits r _⟩
  case _ => exact ⟨_, rfl, executeCode_executed fun r => stopMonitor_fits r _⟩
  case _ => exact ⟨_, rfl, executeCode_executed fun r => releaseMonitor_fits r _⟩
  case _ => exact ⟨_, rfl, executeCode_executed fun r => setOverride_fits r _⟩
  case _ => exact ⟨_, rfl, executeCode_executed fun _ => .unchanged _⟩
  case _ =>
    refine ⟨_, rfl, executeCode_executed fun r => ?_⟩
    dsimp only
    split
    · split
      · exact .clear _
      · exact .unchanged _
    · trivial
  case _ => exact ⟨_, rfl, executeCode_executed fun r => setNotice_fits r _⟩
  case _ => exact ⟨_, rfl, executeCode_executed fun _ => resumeNotice_fits _⟩
  case _ => exact ⟨_, rfl, execute_executed fun _ => trivial⟩

end Sys2Proof.Machine
end

section
/-! PROOFS. The footprint of each command: the parts of the state that it can change. -/

namespace Sys2Proof.Machine

set_option Elab.async false

/-! ## Returning blocks (R19, R28, R30) -/

/-- Returning the blocks of several frames changes the free list and the share counts alone. -/
theorem FrameStore.releaseAll_eq (st : FrameStore) (ds : List Descriptor) :
    st.releaseAll ds =
      { st with free := st.free ++ ds.flatMap (·.blocks), share := (st.releaseAll ds).share } := by
  induction ds generalizing st with
  | nil => simp [FrameStore.releaseAll]
  | cons d ds ih =>
    rw [FrameStore.releaseAll, ih]
    simp [FrameStore.release]

@[simp] theorem blocksFrom_nil (p : Port) : blocksFrom p [] = 0 := rfl

theorem blocksFrom_cons (p : Port) (d : Descriptor) (l : List Descriptor) :
    blocksFrom p (d :: l) = (if d.ingress = p then d.blocks.length else 0) + blocksFrom p l := by
  by_cases h : d.ingress = p <;> simp [blocksFrom, h]

@[simp] theorem blocksFrom_append (p : Port) (l l' : List Descriptor) :
    blocksFrom p (l ++ l') = blocksFrom p l + blocksFrom p l' := by
  simp [blocksFrom]

/-- Returning one frame's blocks takes them off the share of its port. -/
theorem FrameStore.release_share_get (st : FrameStore) (d : Descriptor) (p : Port) :
    (st.release d).share.get p = st.share.get p - blocksFrom p [d] := by
  by_cases h : d.ingress = p
  · subst h
    simp [FrameStore.release, blocksFrom_cons]
  · simp [FrameStore.release, blocksFrom_cons, h, PerPort.get_set_of_ne _ _ (Ne.symm h)]

/-- Returning the blocks of several frames takes them off the shares of their ports. -/
theorem FrameStore.releaseAll_share_get (st : FrameStore) (ds : List Descriptor) (p : Port) :
    (st.releaseAll ds).share.get p = st.share.get p - blocksFrom p ds := by
  induction ds generalizing st with
  | nil => simp [FrameStore.releaseAll]
  | cons d ds ih =>
    rw [FrameStore.releaseAll, ih, FrameStore.release_share_get, Nat.sub_sub, ← blocksFrom_append]
    rfl

/-! ## The operations that several commands share -/

section

variable (s : State) (p : Port)

theorem State.receiverTakesDown_within : Within [.link, .receivers, .blocks] s (s.receiverTakesDown p) := by
  simp only [State.receiverTakesDown]
  (repeat' split) <;> exact .of_mix rfl

theorem State.transmitterTakesDown_within :
    Within [.link, .transmitters, .blocks, .noticeFrame] s (s.transmitterTakesDown p) := by
  simp only [State.transmitterTakesDown, State.abandon]
  (repeat' split) <;> exact .of_mix rfl

theorem State.storeTakesDown_within : Within [.link, .blocks, .forward] s (s.storeTakesDown p) := by
  simp only [State.storeTakesDown, FrameStore.flush]
  rw [FrameStore.releaseAll_eq]
  split <;> exact .of_mix rfl

theorem State.agentTakesDown_within : Within [.link, .responses, .pendingResults] s (s.agentTakesDown p) := by
  simp only [State.agentTakesDown]
  split <;> exact .of_mix rfl

theorem State.noticeTakesDown_within : Within [.link, .noticeFrame] s (s.noticeTakesDown p) := by
  simp only [State.noticeTakesDown]
  (repeat' split) <;> exact .of_mix rfl

/-- What the changes to DOWN of a port's blocks can change together. -/
def downParts : List Part :=
  [.link, .receivers, .transmitters, .blocks, .forward, .noticeFrame, .responses, .pendingResults]

theorem State.allTakeDown_within : Within downParts s (s.allTakeDown p) := by
  have hreceiver := (s.receiverTakesDown_within p).mono (l' := downParts) (by decide)
  have htransmitter := ((s.receiverTakesDown p).transmitterTakesDown_within p).mono (l' := downParts) (by decide)
  have hstore := (((s.receiverTakesDown p).transmitterTakesDown p).storeTakesDown_within p).mono (l' := downParts)
    (by decide)
  have hagent := ((((s.receiverTakesDown p).transmitterTakesDown p).storeTakesDown p).agentTakesDown_within p).mono
    (l' := downParts) (by decide)
  have hnotice := (((((s.receiverTakesDown p).transmitterTakesDown p).storeTakesDown p).agentTakesDown
    p).noticeTakesDown_within p).mono (l' := downParts) (by decide)
  exact (((hreceiver.trans htransmitter).trans hstore).trans hagent).trans hnotice

theorem State.respond_within (a : Byte) (q t : Half) (c : Byte) (u : Status) (b : List Byte) :
    Within [.responses, .cache] s (s.respond p a q t c u b) := by
  simp only [State.respond, State.holdResponse]
  split <;> exact .of_mix rfl

theorem State.offer_within (d : Screened) : Within [.blocks, .forward, .events] s (s.offer d) := by
  simp only [State.offer]
  (repeat' split) <;> exact .of_mix rfl

theorem State.decideFrame_within (d : Screened) : Within [.bytes, .blocks, .forward, .events] s (s.decideFrame d) := by
  have hoffer : ∀ t : State, Within [.bytes, .blocks, .forward, .events] s t →
      Within [.bytes, .blocks, .forward, .events] s (t.offer d) :=
    fun t h => h.trans ((t.offer_within d).mono (by decide))
  simp only [State.decideFrame]
  (repeat' split)
  · exact .of_mix rfl
  · exact hoffer _ (.refl _ _)
  · exact hoffer _ (.of_mix rfl)
  · exact .of_mix rfl
  · exact hoffer _ (.of_mix rfl)
  · exact .of_mix rfl

theorem State.recompute_within (c : ClassId) (w : Word) : Within [.classes, .events] s (s.recompute c w) := by
  simp only [State.recompute]
  (repeat' split) <;> exact .of_mix rfl

theorem State.report_within (m : MonitorId) (engaged : Bool) : Within [.classes, .events] s (s.report m engaged) :=
  Within.trans (.of_mix rfl) (State.recompute_within _ _ _)

theorem State.makeTransition_within (m : MonitorId) (t : Transition) :
    Within [.monitors, .classes, .events] s (s.makeTransition m t) := by
  simp only [State.makeTransition]
  cases t.event <;> cases t.report
  · exact .of_mix rfl
  · exact Within.trans (.of_mix rfl) ((State.report_within _ _ _).mono (by decide))
  · exact .of_mix rfl
  · exact Within.trans (.of_mix rfl) ((State.report_within _ _ _).mono (by decide))

theorem State.monitorTakes_within (d : Screened) (m : MonitorId) :
    Within [.monitors, .classes, .events] s (State.monitorTakes d s m) := by
  simp only [State.monitorTakes]
  split
  · exact s.makeTransition_within m _
  · exact .refl _ _

/-- What no step of a fold can leave, the fold does not leave. -/
theorem Within.foldl {α : Type} {l : List Part} {f : State → α → State} (h : ∀ s a, Within l s (f s a)) :
    ∀ (as : List α) (s : State), Within l s (as.foldl f s)
  | [], s => .refl l s
  | a :: as, s => (h s a).trans (Within.foldl h as (f s a))

theorem State.monitorsTake_within (d : Screened) : Within [.monitors, .classes, .events] s (s.monitorsTake d) :=
  Within.foldl (fun t m => t.monitorTakes_within d m) _ s

theorem State.takeExpiry_within (m : MonitorId) (timer : MonitorRuntime → Timer)
    (expires : MonitorConfig → MonitorRuntime → Transition) :
    Within [.monitors, .classes, .events] s (s.takeExpiry m timer expires) := by
  simp only [State.takeExpiry]
  split
  · exact s.makeTransition_within m _
  · exact .refl _ _

theorem State.switchBanks_within : Within [.engine, .tables, .events] s s.switchBanks := by
  simp only [State.switchBanks]
  split <;> exact .of_mix rfl

theorem State.finishWalk_within (d : Descriptor) (w : Walk) (e : WalkEnd) :
    Within [.engine, .events] s (s.finishWalk d w e) := by
  cases e <;> exact .of_mix rfl

theorem State.makeAwaitedSwitch_within : Within [.engine, .tables, .events] s s.makeAwaitedSwitch := by
  simp only [State.makeAwaitedSwitch]
  split
  · exact Within.trans (.of_mix rfl) s.takeRequest.switchBanks_within
  · exact .refl _ _

theorem State.completeWalk_within (d : Descriptor) (w : Walk) :
    Within [.engine, .tables, .events] s (s.completeWalk d w) :=
  ((s.finishWalk_within d w _).mono (by decide)).trans (State.makeAwaitedSwitch_within _)

theorem State.setBank_within (k : BankId) (b : Bank) : Within [.tables] s (s.setBank k b) := by
  cases k <;> exact .of_mix rfl

theorem State.restartTables_within : Within [.tables] s s.restartTables := by
  simp only [State.restartTables]
  split
  · exact Within.trans (s.setBank_within _ _) (.of_mix rfl)
  · exact .of_mix rfl

theorem State.judgeArrival_within (r : Request) :
    Within [.blocks, .requests, .responses, .cache] s (s.judgeArrival r) := by
  have hdrop : ∀ c, Within [.blocks, .requests, .responses, .cache] s (s.dropRequest r c) := fun c => .of_mix rfl
  simp only [State.judgeArrival]
  (repeat' split)
  · exact hdrop _
  · exact hdrop _
  · exact (hdrop _).trans ((State.respond_within _ _ _ _ _ _ _ _).mono (by decide))
  · exact hdrop _
  · simp only [State.holdResponse]
    split <;> exact .of_mix rfl
  · exact hdrop _
  · exact hdrop _
  · exact hdrop _
  · exact .of_mix rfl

theorem State.acknowledge_within (n : Half) : Within [.events, .noticeState] s (s.acknowledge n) := by
  simp only [State.acknowledge]
  split <;> exact .of_mix rfl

theorem State.readAck_within (d : Descriptor) : Within [.blocks, .events, .noticeState] s (s.readAck d) := by
  simp only [State.readAck]
  (repeat' split)
  · exact .of_mix rfl
  · exact Within.trans (.of_mix rfl) ((State.acknowledge_within _ _).mono (by decide))
  · exact .of_mix rfl

theorem State.route_within (d : Descriptor) :
    Within [.inbox, .noticeInbox, .blocks, .ready, .events] s (s.route d) := by
  simp only [State.route, State.offerReady]
  (repeat' split) <;> exact .of_mix rfl

theorem State.grant_within : Within [.forward, .responses, .noticeFrame, .runCount, .transmitters] s (s.grant p) := by
  simp only [State.grant]
  (repeat' split) <;> exact .of_mix rfl

theorem State.reportSent_within (f : Sending) : Within [.responses, .noticeFrame, .blocks] s (s.reportSent p f) := by
  cases f <;> exact .of_mix rfl

end

/-! ## The footprint of a command -/

/-- Everything but the queue of commands. -/
def stateParts : List Part :=
  [.link, .receivers, .transmitters, .bytes, .blocks, .ready, .forward, .runCount, .engine, .tables, .monitors, .classes,
   .events, .noticeState, .noticeFrame, .noticeInbox, .access, .inbox, .requests, .responses, .pendingResults, .cache]

/-- What every execution of a request can change (R163, R164, R165). -/
def requestParts : List Part := [.blocks, .requests, .responses, .cache]

/-- The parts of the state that a command can change. -/
def footprint : Instr → List Part
  | .powerOnReset | .restart => stateParts
  | .linkChangeUp _ => .events :: downParts
  | .linkChangeDown _ => [.link, .events, .runCount]
  | .receiverLinkDown _ => [.link, .receivers, .blocks]
  | .transmitterLinkDown _ => [.link, .transmitters, .blocks, .noticeFrame]
  | .flush _ => [.link, .blocks, .forward]
  | .slotFreeAtLinkDown _ => [.link, .responses, .pendingResults]
  | .noticePortDown _ => [.link, .noticeFrame]
  | .frameStart _ | .frameEndInDiscarding _ => [.receivers]
  | .blockClaim .. => [.receivers, .bytes, .blocks, .events]
  | .oversize _ => [.receivers, .blocks]
  | .frameEnd .. => [.receivers, .inbox, .noticeInbox, .blocks, .ready, .events]
  | .mgmtRequestArrival _ => .inbox :: requestParts
  | .noticeAck _ => [.noticeInbox, .blocks, .events, .noticeState]
  | .frameTake => [.ready, .engine, .tables, .events]
  | .walkCompletion | .switchRequest => [.engine, .tables, .events]
  | .monitorTakeFrame => [.engine, .monitors, .classes, .bytes, .blocks, .forward, .events]
  | .purge _ => [.blocks, .forward]
  | .egressGrant _ => [.forward, .responses, .noticeFrame, .runCount, .transmitters]
  | .endOfTransmission _ => [.transmitters, .responses, .noticeFrame, .blocks]
  | .tick => [.monitors, .noticeState]
  | .delayTimerExpiry _ | .recoveryTimerExpiry _ | .silenceTimerExpiry _ | .decayTimerExpiry _
  | .latchExpiryTimerExpiry _ => [.monitors, .classes, .events]
  | .retransmitTimerExpiry => [.noticeState, .noticeFrame]
  | .verifyExaminationComplete => [.tables]
  | .copyComplete => [.tables, .events]
  | .resultReport => [.tables, .pendingResults, .responses, .cache]
  | .noticeForming => [.events, .noticeState, .noticeFrame]
  | .identify | .readHeader | .readEntries | .readMonitor | .readStatus | .readCounters | .badCommand => requestParts
  | .setAddress | .setAccess => .access :: requestParts
  | .writeHeader | .writeEntries => .tables :: requestParts
  | .verify => .tables :: .pendingResults :: requestParts
  | .commit => .tables :: .engine :: .pendingResults :: requestParts
  | .writeMonitor | .startMonitor => .monitors :: requestParts
  | .stopMonitor | .releaseMonitor => .monitors :: .classes :: .events :: requestParts
  | .setOverride => .classes :: .events :: requestParts
  | .setNotice => .events :: .noticeState :: .noticeFrame :: requestParts
  | .resumeNotice => .noticeState :: .noticeFrame :: requestParts

theorem Effect.within {s t : State} {c : Instr} (h : Effect s c t) : Within (footprint c) s t := by
  cases h with
  | unchanged => exact .refl _ _
  | ownAddress => exact .of_mix rfl
  | access => exact .of_mix rfl
  | header => exact Within.trans ((State.setBank_within _ _ _).mono (by decide)) (.of_mix rfl)
  | entries => exact Within.trans ((State.setBank_within _ _ _).mono (by decide)) (.of_mix rfl)
  | config => exact .of_mix rfl
  | start => exact .of_mix rfl
  | stop => exact (State.makeTransition_within _ _ _).mono (by decide)
  | release => exact (State.makeTransition_within _ _ _).mono (by decide)
  | override => exact Within.trans (.of_mix rfl) ((State.recompute_within _ _ _).mono (by decide))
  | clear => exact .of_mix rfl
  | destination => exact .of_mix rfl
  | noDestination => exact .of_mix rfl
  | resumeEmpty => exact .of_mix rfl
  | resume => exact .of_mix rfl

theorem Acceptance.within {s t : State} {c : Instr} (h : Acceptance s c t) : Within (footprint c) s t := by
  cases h <;> exact .of_mix rfl

theorem requestParts_subset_footprint {c : Instr} (hc : c ∈ requestCommands) : requestParts ⊆ footprint c := by
  revert c
  decide

theorem State.endExecution_within (s : State) (r : Request) : Within [.blocks] s (s.endExecution r) := .of_mix rfl

theorem Executed.within {s t : State} {c : Instr} (hc : c ∈ requestCommands) (h : Executed c s t) :
    Within (footprint c) s t := by
  have hrequest := requestParts_subset_footprint hc
  have hqueue : Within (footprint c) s s.dequeue := Within.mono hrequest (.of_mix rfl)
  have hblocks : [Part.blocks] ⊆ footprint c := List.Subset.trans (by decide) hrequest
  obtain rfl | ⟨r, rest, -, -, ⟨t, u, results, heffect, -, rfl⟩ | ⟨t, haccept, rfl⟩⟩ := h
  · exact .refl _ _
  · have hrespond := (t.respond_within r.port r.source r.seq r.tag r.command u results).mono
      (List.Subset.trans (by decide) hrequest)
    exact ((hqueue.trans heffect.within).trans hrespond).trans ((State.endExecution_within _ r).mono hblocks)
  · have hreserve : Within (footprint c) t (t.reserve r) := by
      cases haccept <;> exact .of_mix rfl
    exact ((hqueue.trans haccept.within).trans hreserve).trans ((State.endExecution_within _ r).mono hblocks)

/-- A RESTART that is refused for its arguments ends as a BAD_COMMAND does (R163). -/
theorem refusedRestart_executed (s : State) : Executed .badCommand s
    (s.execute (fun c => decide (c = codeRestart)) fun _ _ => .refused .badArgument) :=
  execute_executed fun _ => trivial

/-- A command changes nothing outside its footprint. -/
theorem exec_within {c : Instr} {s t : State} (h : exec c s = .next t) : Within (footprint c) s t := by
  by_cases hc : c ∈ requestCommands
  · obtain ⟨t', e, hexecuted⟩ := exec_executed hc s
    cases h.symm.trans e
    exact hexecuted.within hc
  revert h
  cases c with
  | powerOnReset =>
    rintro ⟨⟩
    exact .of_mix rfl
  | linkChangeUp p =>
    simp only [exec, execLinkChangeUp]
    split
    · rintro ⟨⟩
      exact .refl _ _
    · rintro ⟨⟩
      exact ((s.allTakeDown_within p).mono (List.subset_cons_self _ _)).trans (.of_mix rfl)
  | linkChangeDown p =>
    simp only [exec, execLinkChangeDown]
    split <;> rintro ⟨⟩
    · exact .refl _ _
    · exact .of_mix rfl
  | receiverLinkDown p =>
    rintro ⟨⟩
    exact s.receiverTakesDown_within p
  | transmitterLinkDown p =>
    rintro ⟨⟩
    exact s.transmitterTakesDown_within p
  | flush p =>
    rintro ⟨⟩
    exact s.storeTakesDown_within p
  | slotFreeAtLinkDown p =>
    rintro ⟨⟩
    exact s.agentTakesDown_within p
  | noticePortDown p =>
    rintro ⟨⟩
    exact s.noticeTakesDown_within p
  | frameStart p =>
    simp only [exec, execFrameStart]
    split <;> rintro ⟨⟩ <;> exact .of_mix rfl
  | blockClaim p pick bytes =>
    simp only [exec, execBlockClaim]
    (repeat' split) <;> rintro ⟨⟩ <;> exact .of_mix rfl
  | oversize p =>
    simp only [exec, execOversize]
    (repeat' split) <;> rintro ⟨⟩ <;> exact .of_mix rfl
  | frameEnd p aborted =>
    simp only [exec, execFrameEnd]
    (repeat' split) <;> rintro ⟨⟩
    · exact .of_mix rfl
    · exact Within.trans (.of_mix rfl) ((State.route_within _ _).mono (by simp [footprint]))
    · exact .refl _ _
  | mgmtRequestArrival p =>
    simp only [exec, execMgmtRequestArrival]
    split <;> rintro ⟨⟩
    · exact .refl _ _
    · exact Within.trans (.of_mix rfl) ((State.judgeArrival_within _ _).mono (by simp [footprint, requestParts]))
  | noticeAck p =>
    simp only [exec, execNoticeAck]
    split <;> rintro ⟨⟩
    · exact .refl _ _
    · exact Within.trans (.of_mix rfl) ((State.readAck_within _ _).mono (by simp [footprint]))
  | frameTake =>
    intro h
    obtain e | ⟨p, d, rest, -, -, -, -, ⟨-, e⟩ | ⟨-, e⟩⟩ := execFrameTake_cases s
    · cases h.symm.trans e
      exact .refl _ _
    · cases h.symm.trans e
      exact .of_mix rfl
    · cases h.symm.trans e
      exact Within.trans (.of_mix rfl) ((State.completeWalk_within _ _ _).mono (by decide))
  | walkCompletion =>
    simp only [exec, execWalkCompletion]
    split <;> rintro ⟨⟩
    · exact s.completeWalk_within _ _
    · exact .refl _ _
  | switchRequest =>
    simp only [exec, execSwitchRequest]
    (repeat' split) <;> rintro ⟨⟩
    · exact .of_mix rfl
    · exact Within.trans (.of_mix rfl) s.takeRequest.switchBanks_within
    · exact .refl _ _
  | monitorTakeFrame =>
    simp only [exec, execMonitorTakeFrame]
    split <;> rintro ⟨⟩
    · rename_i d _ _ _
      exact (((s.monitorsTake_within d).mono (by decide)).trans
        ((State.decideFrame_within _ d).mono (by decide))).trans (.of_mix rfl)
    · exact .refl _ _
  | purge c =>
    simp only [exec, execPurge, FrameStore.purge]
    rw [FrameStore.releaseAll_eq]
    split <;> rintro ⟨⟩ <;> exact .of_mix rfl
  | egressGrant p =>
    simp only [exec, execEgressGrant]
    split <;> rintro ⟨⟩
    · exact s.grant_within p
    · exact .refl _ _
  | endOfTransmission p =>
    simp only [exec, execEndOfTransmission]
    split <;> rintro ⟨⟩
    · exact Within.trans (.of_mix rfl) ((State.reportSent_within _ _ _).mono (by simp [footprint]))
    · exact .refl _ _
  | tick =>
    rintro ⟨⟩
    exact .of_mix rfl
  | delayTimerExpiry m =>
    rintro ⟨⟩
    exact s.takeExpiry_within _ _ _
  | recoveryTimerExpiry m =>
    rintro ⟨⟩
    exact s.takeExpiry_within _ _ _
  | silenceTimerExpiry m =>
    rintro ⟨⟩
    exact s.takeExpiry_within _ _ _
  | decayTimerExpiry m =>
    rintro ⟨⟩
    exact s.takeExpiry_within _ _ _
  | latchExpiryTimerExpiry m =>
    rintro ⟨⟩
    exact s.takeExpiry_within _ _ _
  | retransmitTimerExpiry =>
    simp only [exec, execRetransmitTimerExpiry]
    (repeat' split) <;> rintro ⟨⟩ <;> exact .of_mix rfl
  | verifyExaminationComplete =>
    simp only [exec, execVerifyExaminationComplete]
    split <;> rintro ⟨⟩ <;> exact .of_mix rfl
  | copyComplete =>
    simp only [exec, execCopyComplete]
    split <;> rintro ⟨⟩
    · exact Within.trans ((s.setBank_within _ _).mono (by decide)) (.of_mix rfl)
    · exact .refl _ _
  | resultReport =>
    simp only [exec, execResultReport, State.respondReported, State.holdResponse]
    (repeat' split) <;> rintro ⟨⟩ <;> exact .of_mix rfl
  | noticeForming =>
    simp only [exec, execNoticeForming, State.formNotice]
    (repeat' split) <;> rintro ⟨⟩ <;> exact .of_mix rfl
  | restart =>
    simp only [exec, execRestart]
    split
    · rintro ⟨⟩
      exact .refl _ _
    · split <;> rintro ⟨⟩
      · refine Within.trans ?_ ((State.respond_within _ _ _ _ _ _ _ _).mono (by decide))
        exact (s.restartTables_within.mono (by decide)).trans (.of_mix rfl)
      · exact ((refusedRestart_executed s).within (by decide)).mono (by decide)
  | frameEndInDiscarding p =>
    simp only [exec, execFrameEndInDiscarding]
    split <;> rintro ⟨⟩ <;> exact .of_mix rfl
  | _ => exact absurd (by decide) hc

end Sys2Proof.Machine
end

section
/-! PROOFS. The queue of commands, and the bytes of the frame store: their canonical form under every command. -/

namespace Sys2Proof.Machine

set_option Elab.async false

/-! ## A step is the execution of the front command -/

theorem step_of_pending_eq_cons {c : Instr} {rest : List Instr} {s : State} (h : s.pending = c :: rest) :
    step s = exec c { s with pending := rest } := by
  simp [step, h]

theorem step_of_pending_eq_nil {s : State} (h : s.pending = []) : step s = .next s := by
  simp [step, h]

/-- Settles O1, by the two cases of the queue. -/
theorem stepRunsTheFrontCommand : Obligations.StepRunsTheFrontCommand :=
  ⟨fun _ _ _ h => step_of_pending_eq_cons h, fun _ h => step_of_pending_eq_nil h⟩

/-- A predicate that does not speak of the queue of commands, and that every command keeps where a premise of the same
kind holds, is kept by every step. -/
theorem step_keeps {premise holds : State → Prop}
    (hpremise : ∀ (s : State) (q : List Instr), premise s → premise { s with pending := q })
    (hholds : ∀ (s : State) (q : List Instr), holds s → holds { s with pending := q })
    (hexec : ∀ (c : Instr) (s t : State), premise s → holds s → exec c s = .next t → holds t) :
    ∀ s t : State, premise s → holds s → step s = .next t → holds t := by
  intro s t hp hs h
  cases hq : s.pending with
  | nil =>
    cases (step_of_pending_eq_nil hq).symm.trans h
    exact hs
  | cons c rest =>
    rw [step_of_pending_eq_cons hq] at h
    exact hexec c _ t (hpremise s rest hp) (hholds s rest hs) h

/-- The same without a premise. -/
theorem step_keeps_alone {holds : State → Prop}
    (hholds : ∀ (s : State) (q : List Instr), holds s → holds { s with pending := q })
    (hexec : ∀ (c : Instr) (s t : State), holds s → exec c s = .next t → holds t) :
    ∀ s t : State, holds s → step s = .next t → holds t := fun s t hs h =>
  step_keeps (premise := fun _ => True) (fun _ _ _ => trivial) hholds (fun c s t _ => hexec c s t) s t trivial hs h

/-! ## Writes to a stored frame -/

/-- From canonical bytes, only bytes of frame `d` have been written, and the form is canonical again. -/
def WritesOnly (d : Descriptor) (cells cells' : List Host.Cell) : Prop :=
  Memory.wf cells = true → Memory.wf cells' = true ∧
    ∀ a, (∀ i, frameAddress d i ≠ some a) → readCells cells' a = readCells cells a

theorem WritesOnly.refl (d : Descriptor) (cells : List Host.Cell) : WritesOnly d cells cells := fun h => ⟨h, fun _ _ => rfl⟩

theorem WritesOnly.trans {d : Descriptor} {cells cells' cells'' : List Host.Cell} (h : WritesOnly d cells cells')
    (h' : WritesOnly d cells' cells'') : WritesOnly d cells cells'' := fun hwf => by
  obtain ⟨hwf', hread⟩ := h hwf
  obtain ⟨hwf'', hread'⟩ := h' hwf'
  exact ⟨hwf'', fun a ha => (hread' a ha).trans (hread a ha)⟩

theorem writeFrameBytes_writesOnly (d : Descriptor) (i : Nat) (vs : List Byte) (cells : List Host.Cell) :
    WritesOnly d cells (writeFrameBytes d i vs cells) := fun hwf =>
  ⟨wf_writeFrameBytes d i vs hwf, fun a ha => read_writeFrameBytes_of_outside d a i vs hwf fun j _ _ => ha j⟩

theorem setFrameFlags_writesOnly (d : Descriptor) (bits : Byte) (cells : List Host.Cell) :
    WritesOnly d cells (setFrameFlags d bits cells) :=
  writeFrameBytes_writesOnly d flagsPosition [frameByte cells d flagsPosition ||| bits] cells

theorem recomputeCheck_writesOnly (d : Descriptor) (cells : List Host.Cell) :
    WritesOnly d cells (recomputeCheck d cells) := writeFrameBytes_writesOnly d _ _ cells

theorem rewriteSample_writesOnly (d : Descriptor) (x : Sample) (value : Word) (cells : List Host.Cell) :
    WritesOnly d cells (rewriteSample d x value cells) := writeFrameBytes_writesOnly d _ _ cells

theorem rewriteSlots_writesOnly (d : Screened) (l : List (Fin 4 × Word)) (cells : List Host.Cell) :
    WritesOnly d.desc cells (rewriteSlots d l cells) := by
  induction l generalizing cells with
  | nil => exact .refl _ _
  | cons r rest ih =>
    rw [rewriteSlots]
    refine WritesOnly.trans ?_ (ih _)
    split
    · exact rewriteSample_writesOnly d.desc _ _ cells
    · exact .refl _ _

/-- Deciding a frame's fate writes to that frame alone (R112, R114). -/
theorem decideFrame_writesOnly (s : State) (d : Screened) :
    WritesOnly d.desc s.store.bytes (s.decideFrame d).store.bytes := by
  have hmark : ∀ (bits : Byte) (cells : List Host.Cell),
      WritesOnly d.desc cells (recomputeCheck d.desc (setFrameFlags d.desc bits cells)) := fun bits cells =>
    (setFrameFlags_writesOnly d.desc bits cells).trans (recomputeCheck_writesOnly d.desc _)
  simp only [State.decideFrame]
  (repeat' split)
  · exact .refl _ _
  · rw [State.offer_store_bytes]
    exact .refl _ _
  · rw [State.offer_store_bytes]
    exact hmark _ _
  · exact .refl _ _
  · rw [State.offer_store_bytes]
    exact (rewriteSlots_writesOnly d _ _).trans (hmark _ _)
  · exact .refl _ _

/-! ## The canonical form -/

theorem BytesCanonical.congr {s t : State} (h : t.store.bytes = s.store.bytes) (hs : BytesCanonical s) :
    BytesCanonical t := by
  rwa [BytesCanonical, h]

/-- A RESTART keeps the bytes of the pool (R17). -/
theorem execRestart_bytes {s t : State} (h : exec .restart s = .next t) : t.store.bytes = s.store.bytes := by
  revert h
  simp only [exec, execRestart]
  split
  · rintro ⟨⟩
    rfl
  · split <;> rintro ⟨⟩
    · rw [State.respond_store]
      rfl
    · exact (refusedRestart_executed s).within (by decide) .bytes rfl

theorem exec_keeps_bytesCanonical {c : Instr} {s t : State} (hs : BytesCanonical s) (h : exec c s = .next t) :
    BytesCanonical t := by
  cases c with
  | powerOnReset =>
    cases h
    rfl
  | restart => exact hs.congr (execRestart_bytes h)
  | blockClaim p pick bytes =>
    revert h
    simp only [exec, execBlockClaim]
    (repeat' split) <;> rintro ⟨⟩
    · exact wf_writeFrameBytes _ _ _ hs
    · exact hs
    · exact hs
    · exact hs
  | monitorTakeFrame =>
    revert h
    simp only [exec, execMonitorTakeFrame]
    split <;> rintro ⟨⟩
    · rename_i d _ _ _
      have hwf : Memory.wf (s.monitorsTake d).store.bytes = true := by rwa [State.monitorsTake_store_bytes]
      exact (decideFrame_writesOnly _ d hwf).left
    · exact hs
  | _ => exact hs.congr (exec_within h .bytes rfl)

/-- Settles O17: two commands write to the pool, each through writes that keep the form. -/
theorem bytesStayCanonical : Obligations.BytesStayCanonical :=
  step_keeps_alone (fun _ _ => id) fun _ _ _ => exec_keeps_bytesCanonical

end Sys2Proof.Machine
end

section
/-! PROOFS. Chapter 9, events: what the commands do to the event queue, and its sequence numbers (R134, R136). -/

namespace Sys2Proof.Machine

set_option Elab.async false

/-! ## The commands that append events, and no more -/

/-- The second queue is the first after some events have been appended. -/
inductive Appended (q : EventQueue) : EventQueue → Prop
  | refl : Appended q q
  | append {q' : EventQueue} (h : Appended q q') (time : Word) (kind : EventKind) (subject qualifier : Byte)
      (detail : Word) : Appended q (q'.append time kind subject qualifier detail)

/-- What every append keeps, a queue to which events have been appended keeps. -/
theorem Appended.keeps {P : EventQueue → Prop}
    (hP : ∀ q time kind subject qualifier detail, P q → P (q.append time kind subject qualifier detail))
    {q q' : EventQueue} (h : Appended q q') (hq : P q) : P q' := by
  induction h with
  | refl => exact hq
  | append _ time kind subject qualifier detail ih => exact hP _ _ _ _ _ _ ih

section

variable {q : EventQueue} (s : State)

theorem State.raise_appended (kind : EventKind) (subject qualifier : Byte) (detail : Word) (h : Appended q s.events) :
    Appended q (s.raise kind subject qualifier detail).events := h.append _ _ _ _ _

theorem State.raiseDiscard_appended (p : Port) (cause : Byte) (counter : PortCounter) (h : Appended q s.events) :
    Appended q (s.raiseDiscard p cause counter).events := h.append _ _ _ _ _

theorem State.offer_appended (d : Screened) (h : Appended q s.events) : Appended q (s.offer d).events := by
  simp only [State.offer]
  (repeat' split)
  · exact h
  · exact State.raiseDiscard_appended _ _ _ _ h
  · exact h

theorem State.decideFrame_appended (d : Screened) (h : Appended q s.events) : Appended q (s.decideFrame d).events := by
  simp only [State.decideFrame]
  (repeat' split)
  · exact h
  · exact State.offer_appended _ d h
  · exact State.offer_appended _ d h
  · exact h
  · exact State.offer_appended _ d h
  · exact h

theorem State.recompute_appended (c : ClassId) (w : Word) (h : Appended q s.events) :
    Appended q (s.recompute c w).events := by
  simp only [State.recompute]
  (repeat' split)
  · exact h
  · rw [State.requestPurge_events]
    exact State.raise_appended _ _ _ _ _ h
  · exact State.raise_appended _ _ _ _ _ h

theorem State.report_appended (m : MonitorId) (engaged : Bool) (h : Appended q s.events) :
    Appended q (s.report m engaged).events := State.recompute_appended _ _ _ h

theorem State.makeTransition_appended (m : MonitorId) (t : Transition) (h : Appended q s.events) :
    Appended q (s.makeTransition m t).events := by
  simp only [State.makeTransition]
  cases t.event <;> cases t.report
  · exact h
  · exact State.report_appended _ _ _ h
  · exact State.raise_appended _ _ _ _ _ h
  · exact State.report_appended _ _ _ (State.raise_appended _ _ _ _ _ h)

theorem State.monitorTakes_appended (d : Screened) (m : MonitorId) (h : Appended q s.events) :
    Appended q (State.monitorTakes d s m).events := by
  simp only [State.monitorTakes]
  split
  · exact s.makeTransition_appended m _ h
  · exact h

theorem State.monitorsTake_appended (d : Screened) (h : Appended q s.events) : Appended q (s.monitorsTake d).events := by
  rw [State.monitorsTake]
  generalize List.finRange 48 = ms
  induction ms generalizing s with
  | nil => exact h
  | cons m ms ih => exact ih _ (s.monitorTakes_appended d m h)

theorem State.takeExpiry_appended (m : MonitorId) (timer : MonitorRuntime → Timer)
    (expires : MonitorConfig → MonitorRuntime → Transition) (h : Appended q s.events) :
    Appended q (s.takeExpiry m timer expires).events := by
  simp only [State.takeExpiry]
  split
  · exact s.makeTransition_appended m _ h
  · exact h

theorem State.completeCommit_appended (mode : CommitMode) (h : Appended q s.events) :
    Appended q (s.completeCommit mode).events := State.raise_appended _ _ _ _ _ h

theorem State.switchBanks_appended (h : Appended q s.events) : Appended q s.switchBanks.events := by
  simp only [State.switchBanks]
  split
  · exact State.completeCommit_appended _ _ h
  · exact h
  · exact h

theorem State.finishWalk_appended (d : Descriptor) (w : Walk) (e : WalkEnd) (h : Appended q s.events) :
    Appended q (s.finishWalk d w e).events := by
  cases e
  · exact h
  · exact State.raise_appended _ _ _ _ _ h

theorem State.completeWalk_appended (d : Descriptor) (w : Walk) (h : Appended q s.events) :
    Appended q (s.completeWalk d w).events := by
  simp only [State.completeWalk, State.makeAwaitedSwitch]
  split
  · exact State.switchBanks_appended _ (s.finishWalk_appended d w _ h)
  · exact s.finishWalk_appended d w _ h

theorem State.route_appended (d : Descriptor) (h : Appended q s.events) : Appended q (s.route d).events := by
  simp only [State.route, State.offerReady]
  (repeat' split)
  · exact h
  · exact h
  · exact h
  · exact State.raiseDiscard_appended _ _ _ _ h
  · exact h

theorem State.recordChange_appended (p : Port) (l : Link) (down : DownEvents) (kind : EventKind) (qualifier : Byte)
    (h : Appended q s.events) : Appended q (s.recordChange p l down kind qualifier).events :=
  State.raise_appended _ _ _ _ _ h

end

theorem Appended.of_eq {q q' : EventQueue} (h : q' = q) : Appended q q' := h ▸ .refl

/-- The commands that do more to the event queue than append events. -/
def rewritesEvents : Instr → Bool
  | .powerOnReset | .restart | .noticeAck _ | .noticeForming | .setNotice => true
  | _ => false

/-- Of the executions of requests, SET_NOTICE alone does more to the event queue than append events. -/
theorem Executed.appended {c : Instr} {s t : State} (hc : rewritesEvents c = false) (h : Executed c s t) :
    Appended s.events t.events := by
  obtain rfl | ⟨r, rest, -, -, ⟨t, u, results, heffect, -, rfl⟩ | ⟨t, haccept, rfl⟩⟩ := h
  · exact .refl
  · have hresponse : (t.answered r u results).events = t.events := by simp [State.answered]
    rw [hresponse]
    cases heffect with
    | stop => exact State.makeTransition_appended _ _ _ .refl
    | release => exact State.makeTransition_appended _ _ _ .refl
    | override => exact State.recompute_appended _ _ _ .refl
    | header => exact .of_eq (by simp [State.writeShadow])
    | entries => exact .of_eq (by simp [State.writeShadow])
    | destination => cases hc
    | noDestination => cases hc
    | _ => exact .refl
  · cases haccept <;> exact .refl

theorem exec_appended {c : Instr} {s t : State} (hc : rewritesEvents c = false) (h : exec c s = .next t) :
    Appended s.events t.events := by
  by_cases hrequest : c ∈ requestCommands
  · obtain ⟨t', e, hexecuted⟩ := exec_executed hrequest s
    cases h.symm.trans e
    exact hexecuted.appended hc
  cases c with
  | linkChangeUp p =>
    revert h
    simp only [exec, execLinkChangeUp]
    split <;> rintro ⟨⟩
    · exact .refl
    · rw [State.setTransmitter_events, State.setReceiver_events]
      exact State.recordChange_appended _ _ _ _ _ _ (.of_eq (s.allTakeDown_within p .events rfl))
  | linkChangeDown p =>
    revert h
    simp only [exec, execLinkChangeDown]
    split <;> rintro ⟨⟩
    · exact .refl
    · rw [State.setRunCount_events]
      exact State.recordChange_appended _ _ _ _ _ _ .refl
  | blockClaim p pick bytes =>
    revert h
    simp only [exec, execBlockClaim]
    (repeat' split) <;> rintro ⟨⟩
    · exact .refl
    · exact State.raiseDiscard_appended _ _ _ _ .refl
    · exact .refl
    · exact .refl
  | frameEnd p aborted =>
    revert h
    simp only [exec, execFrameEnd]
    (repeat' split) <;> rintro ⟨⟩
    · exact .refl
    · exact State.route_appended _ _ .refl
    · exact .refl
  | frameTake =>
    obtain e | ⟨p, d, rest, -, -, -, -, ⟨-, e⟩ | ⟨-, e⟩⟩ := execFrameTake_cases s
    all_goals cases h.symm.trans e
    · exact .refl
    · exact .refl
    · exact State.completeWalk_appended _ _ _ .refl
  | walkCompletion =>
    revert h
    simp only [exec, execWalkCompletion]
    split <;> rintro ⟨⟩
    · exact s.completeWalk_appended _ _ .refl
    · exact .refl
  | switchRequest =>
    revert h
    simp only [exec, execSwitchRequest]
    (repeat' split) <;> rintro ⟨⟩
    · exact .refl
    · exact State.switchBanks_appended _ .refl
    · exact .refl
  | monitorTakeFrame =>
    revert h
    simp only [exec, execMonitorTakeFrame]
    split <;> rintro ⟨⟩
    · rename_i d _ _ _
      have hevents := State.decideFrame_appended _ d (s.monitorsTake_appended d .refl)
      exact hevents
    · exact .refl
  | delayTimerExpiry m =>
    cases h
    exact s.takeExpiry_appended _ _ _ .refl
  | recoveryTimerExpiry m =>
    cases h
    exact s.takeExpiry_appended _ _ _ .refl
  | silenceTimerExpiry m =>
    cases h
    exact s.takeExpiry_appended _ _ _ .refl
  | decayTimerExpiry m =>
    cases h
    exact s.takeExpiry_appended _ _ _ .refl
  | latchExpiryTimerExpiry m =>
    cases h
    exact s.takeExpiry_appended _ _ _ .refl
  | copyComplete =>
    revert h
    simp only [exec, execCopyComplete]
    split <;> rintro ⟨⟩
    · exact State.completeCommit_appended _ _ (.of_eq (State.setBank_events s _ _))
    · exact .refl
  | powerOnReset => cases hc
  | restart => cases hc
  | noticeAck p => cases hc
  | noticeForming => cases hc
  | _ => first
    | exact absurd (by decide) hrequest
    | exact .of_eq (exec_within h .events rfl)

/-! ## The commands that rewrite the queue -/

/-- What RESTART leads to (R163, R173): every block restarts and the request is answered, or it ends as a refused request
does. -/
theorem execRestart_cases {s t : State} (h : exec .restart s = .next t) :
    (∃ r rest, s.agent.requests = r :: rest ∧ r.command = codeRestart ∧ s.agent.slotFree = true ∧ r.args = [] ∧
      t = (s.restartAll r).respond r.port r.source r.seq r.tag r.command .done []) ∨ Executed .badCommand s t := by
  revert h
  simp only [exec, execRestart]
  split
  · rintro ⟨⟩
    exact .inr (.inl rfl)
  · rename_i r rest hr
    split <;> rintro ⟨⟩
    · rename_i hc
      obtain ⟨hcode, hfree, hargs⟩ := hc
      exact .inl ⟨r, rest, hr, hcode, hfree, hargs, rfl⟩
    · exact .inr (refusedRestart_executed s)

/-- What NOTICE_ACK leads to, for the event queue and the notice sender (R144, R145): nothing but the frame's way out of
the inbox, or an acknowledgement through an outstanding record. -/
theorem execNoticeAck_cases {p : Port} {s t : State} (h : exec (.noticeAck p) s = .next t) :
    (t.events = s.events ∧ t.notice = { s.notice with inbox := t.notice.inbox }) ∨
    ∃ n, holdsSeq n s.events.outstanding = true ∧ t.events = s.events.acknowledge s.time n ∧
      t.notice = { s.notice.acknowledge (afterAck n s.events.outstanding) with inbox := t.notice.inbox } := by
  revert h
  simp only [exec, execNoticeAck]
  split
  · rintro ⟨⟩
    exact .inl ⟨rfl, rfl⟩
  · rename_i d rest _
    simp only [State.readAck, State.acknowledge]
    (repeat' split) <;> rintro ⟨⟩
    · exact .inl ⟨rfl, rfl⟩
    · exact .inr ⟨_, ‹_›, rfl, rfl⟩
    · exact .inl ⟨rfl, rfl⟩
    · exact .inl ⟨rfl, rfl⟩

/-- What NOTICE_FORMING leads to (R142): nothing, or a frame with the next records. -/
theorem execNoticeForming_cases {s t : State} (h : exec .noticeForming s = .next t) :
    t = s ∨ ∃ dst, s.notice.state = .active ∧ s.notice.frame = none ∧ s.notice.destination = some dst ∧
      s.nextRecords ≠ [] ∧ t.events = (s.formNotice dst).events ∧ t.notice = (s.formNotice dst).notice := by
  revert h
  simp only [exec, execNoticeForming]
  split
  · rename_i dst hstate hframe hdst
    split <;> rintro ⟨⟩
    · exact .inl rfl
    · rename_i hnext
      exact .inr ⟨dst, hstate, hframe, hdst, by simpa using hnext, rfl, rfl⟩
  · rintro ⟨⟩
    exact .inl rfl

/-- The records that an acknowledgement leaves are the newest of those that were outstanding (R145). -/
theorem afterAck_eq_drop {n : Half} {l : List Queued} (h : holdsSeq n l = true) :
    ∃ k, 0 < k ∧ k ≤ l.length ∧ afterAck n l = l.drop k := by
  induction l with
  | nil => simp [holdsSeq] at h
  | cons q l ih =>
    by_cases hq : q.record.seq = n
    · exact ⟨1, by simp, by simp, by simp [afterAck, hq]⟩
    · have hl : holdsSeq n l = true := by simpa [holdsSeq, hq] using h
      obtain ⟨k, hpos, hk, e⟩ := ih hl
      refine ⟨k + 1, by omega, by simpa using hk, ?_⟩
      rw [List.drop_succ_cons, ← e]
      simp [afterAck, hq]

/-! ## Sequence numbers -/

/-- The `n` sequence numbers before `next`, oldest first. -/
def seqsBefore (next : Half) (n : Nat) : List Half := (List.range n).map fun i => next - BitVec.ofNat 16 (n - i)

theorem seqsBefore_succ (next : Half) (n : Nat) : seqsBefore (next + 1) (n + 1) = seqsBefore next n ++ [next] := by
  have hshift : ∀ i, i ≤ n → next + 1 - BitVec.ofNat 16 (n + 1 - i) = next - BitVec.ofNat 16 (n - i) := by
    intro i hi
    have hsucc : BitVec.ofNat 16 (n + 1 - i) = BitVec.ofNat 16 (n - i) + 1 := by
      rw [show n + 1 - i = n - i + 1 by omega, BitVec.ofNat_add]
      rfl
    rw [hsucc]
    bv_omega
  have hlast := hshift n le_rfl
  have hbefore : ∀ i ∈ List.range n, next + 1 - BitVec.ofNat 16 (n + 1 - i) = next - BitVec.ofNat 16 (n - i) :=
    fun i hi => hshift i (List.mem_range.1 hi).le
  rw [seqsBefore, List.range_succ, List.map_append, List.map_congr_left hbefore, List.map_singleton, hlast]
  simp [seqsBefore]

theorem seqsBefore_drop (next : Half) (n k : Nat) : (seqsBefore next n).drop k = seqsBefore next (n - k) := by
  apply List.ext_getElem
  · simp [seqsBefore]
  · intro i hi _
    simp only [seqsBefore, List.getElem_drop, List.getElem_map, List.getElem_range]
    congr 2
    omega

/-- The queue's sequence numbers run up to the next one, and its repeats are 1..255 (R134, R136). -/
structure EventQueue.Runs (q : EventQueue) : Prop where
  seqs : (q.outstanding ++ q.unsent).map (·.record.seq) = seqsBefore q.nextSeq q.size
  repeats : ∀ x ∈ q.outstanding ++ q.unsent, 1 ≤ x.record.repeats ∧ x.record.repeats ≤ 255

theorem sequencesRun_iff (s : State) : SequencesRun s ↔ s.events.Runs :=
  ⟨fun ⟨hseqs, hrepeats⟩ => ⟨hseqs, hrepeats⟩, fun ⟨hseqs, hrepeats⟩ => ⟨hseqs, hrepeats⟩⟩

theorem EventQueue.Runs.store {q : EventQueue} (h : q.Runs) (time : Word) (kind : EventKind) (subject qualifier : Byte)
    (detail : Word) : (q.store time kind subject qualifier detail).Runs := by
  refine ⟨?_, ?_⟩
  · have hsize : (q.store time kind subject qualifier detail).size = q.size + 1 := by
      simp [EventQueue.store, EventQueue.size, Nat.add_assoc]
    rw [hsize]
    simp only [EventQueue.store]
    rw [← List.append_assoc, List.map_append, h.seqs, seqsBefore_succ]
    rfl
  · intro x hx
    simp only [EventQueue.store, ← List.append_assoc, List.mem_append, List.mem_singleton] at hx
    rcases hx with hx | rfl
    · exact h.repeats x (List.mem_append.2 hx)
    · simp

/-- A coalescing raises one repeat that was below 255 (R136). -/
theorem coalesceNewest_repeats {kind : EventKind} {subject qualifier : Byte} {detail : Word} {l l' : List Queued}
    (h : coalesceNewest kind subject qualifier detail l = some l')
    (hl : ∀ x ∈ l, 1 ≤ x.record.repeats ∧ x.record.repeats ≤ 255) :
    ∀ x ∈ l', 1 ≤ x.record.repeats ∧ x.record.repeats ≤ 255 := by
  induction l generalizing l' with
  | nil => simp [coalesceNewest] at h
  | cons q l ih =>
    have hhead := hl q (.head l)
    have htail := fun x hx => hl x (.tail q hx)
    simp only [coalesceNewest] at h
    split at h
    · cases h
      exact List.forall_mem_cons.2 ⟨hhead, ih ‹_› htail⟩
    · split at h
      · rename_i hinto
        cases h
        simp only [coalescesInto, Bool.and_eq_true, decide_eq_true_eq] at hinto
        obtain ⟨-, hroom⟩ := hinto
        exact List.forall_mem_cons.2 ⟨⟨by simp, by simp; omega⟩, htail⟩
      · cases h

theorem EventQueue.Runs.append {q : EventQueue} (h : q.Runs) (time : Word) (kind : EventKind) (subject qualifier : Byte)
    (detail : Word) : (q.append time kind subject qualifier detail).Runs := by
  obtain ⟨l, -, hl, e⟩ | ⟨-, e⟩ | ⟨-, e⟩ := EventQueue.append_cases q time kind subject qualifier detail <;> rw [e]
  · refine ⟨?_, ?_⟩
    · have hseqs := h.seqs
      simp only [EventQueue.size, coalesceNewest_length hl, List.map_append, coalesceNewest_seq hl] at hseqs ⊢
      exact hseqs
    · have hrepeats := h.repeats
      rw [List.forall_mem_append] at hrepeats ⊢
      obtain ⟨houtstanding, hunsent⟩ := hrepeats
      exact ⟨houtstanding, coalesceNewest_repeats hl hunsent⟩
  · exact h.store _ _ _ _ _
  · exact ⟨h.seqs, h.repeats⟩

/-- Taking the oldest records away leaves the later sequence numbers. -/
theorem EventQueue.Runs.drop {q : EventQueue} (h : q.Runs) {k : Nat} (hk : k ≤ q.outstanding.length) :
    EventQueue.Runs { q with outstanding := q.outstanding.drop k } := by
  have hdrop : q.outstanding.drop k ++ q.unsent = (q.outstanding ++ q.unsent).drop k := by
    rw [List.drop_append_of_le_length hk]
  refine ⟨?_, ?_⟩
  · have hsize : EventQueue.size { q with outstanding := q.outstanding.drop k } = q.size - k := by
      simp only [EventQueue.size, List.length_drop]
      omega
    rw [hsize, ← seqsBefore_drop, ← h.seqs]
    simp only [hdrop, List.map_drop]
  · intro x hx
    refine h.repeats x (List.mem_of_mem_drop (i := k) ?_)
    rwa [← hdrop]

theorem EventQueue.Runs.acknowledge {q : EventQueue} (h : q.Runs) (time : Word) {n : Half}
    (hn : holdsSeq n q.outstanding = true) : (q.acknowledge time n).Runs := by
  obtain ⟨k, -, hk, e⟩ := afterAck_eq_drop hn
  have hdrop := h.drop hk
  simp only [EventQueue.acknowledge, e]
  split
  · exact hdrop
  · have hstore := hdrop.store time .eventsLost 0 0 (BitVec.ofNat 32 q.lost)
    exact ⟨hstore.seqs, hstore.repeats⟩

/-- A queue with the same records in the same order, marked as carried or not, runs as well. -/
theorem EventQueue.Runs.of_records {q q' : EventQueue} (h : q.Runs) (hnext : q'.nextSeq = q.nextSeq)
    (hrecords : (q'.outstanding ++ q'.unsent).map (·.record) = (q.outstanding ++ q.unsent).map (·.record)) :
    q'.Runs := by
  have hsize : q'.size = q.size := by
    have hlength := congrArg List.length hrecords
    simpa [EventQueue.size] using hlength
  refine ⟨?_, ?_⟩
  · have hseqs := congrArg (List.map EventRecord.seq) hrecords
    rw [List.map_map, List.map_map] at hseqs
    rw [hsize, hnext, ← h.seqs]
    exact hseqs
  · intro x hx
    have hmem : x.record ∈ (q.outstanding ++ q.unsent).map (·.record) := hrecords ▸ List.mem_map_of_mem hx
    obtain ⟨y, hy, e⟩ := List.mem_map.1 hmem
    rw [← e]
    exact h.repeats y hy

theorem map_record_markCarried (l : List Queued) : (l.map markCarried).map (·.record) = l.map (·.record) := by
  simp [markCarried]

/-- The records of the queue after a NOTICE frame is formed are those before, in the same order (R142). -/
theorem State.formNotice_records (s : State) (dst : Destination) :
    ((s.formNotice dst).events.outstanding ++ (s.formNotice dst).events.unsent).map (·.record) =
      (s.events.outstanding ++ s.events.unsent).map (·.record) := by
  have hevents : (s.formNotice dst).events =
      { s.events with
        outstanding := s.events.outstanding ++ (s.events.unsent.take s.nextUnsentCount).map markCarried
        unsent := s.events.unsent.drop s.nextUnsentCount } := by
    simp only [State.formNotice]
    split <;> rfl
  rw [hevents]
  have hunsent := congrArg (List.map (·.record)) (List.take_append_drop s.nextUnsentCount s.events.unsent)
  rw [List.map_append] at hunsent
  simp only [List.map_append, map_record_markCarried, List.append_assoc, hunsent]

theorem State.formNotice_nextSeq (s : State) (dst : Destination) :
    (s.formNotice dst).events.nextSeq = s.events.nextSeq := by
  simp only [State.formNotice]
  split <;> rfl

/-- The queue that a reset leaves runs (R135). -/
theorem EventQueue.restarted_runs (subject qualifier : Byte) (detail : Word) :
    (EventQueue.restarted subject qualifier detail).Runs :=
  ⟨by simp [EventQueue.restarted, EventQueue.size, seqsBefore], by simp [EventQueue.restarted]⟩

theorem exec_keeps_runs {c : Instr} {s t : State} (hs : s.events.Runs) (h : exec c s = .next t) : t.events.Runs := by
  cases hc : rewritesEvents c with
  | false => exact (exec_appended hc h).keeps (fun _ _ _ _ _ _ hq => hq.append _ _ _ _ _) hs
  | true =>
    cases c with
    | powerOnReset =>
      cases h
      exact EventQueue.restarted_runs _ _ _
    | restart =>
      obtain ⟨r, rest, -, -, -, -, rfl⟩ | hrefused := execRestart_cases h
      · rw [State.respond_events]
        exact EventQueue.restarted_runs _ _ _
      · rwa [hrefused.within (by decide) .events rfl]
    | noticeAck p =>
      obtain ⟨e, -⟩ | ⟨n, hn, e, -⟩ := execNoticeAck_cases h
      · rwa [e]
      · rw [e]
        exact hs.acknowledge _ hn
    | noticeForming =>
      obtain rfl | ⟨dst, -, -, -, -, e, -⟩ := execNoticeForming_cases h
      · exact hs
      · rw [e]
        exact hs.of_records (s.formNotice_nextSeq dst) (s.formNotice_records dst)
    | setNotice =>
      obtain ⟨t', e, hexecuted⟩ := exec_executed (c := .setNotice) (by decide) s
      cases h.symm.trans e
      obtain rfl | ⟨r, rest, -, -, ⟨u, status, results, heffect, -, rfl⟩ | ⟨u, haccept, -⟩⟩ := hexecuted
      · exact hs
      · have hresponse : (u.answered r status results).events = u.events := by simp [State.answered]
        rw [hresponse]
        cases heffect with
        | unchanged => exact hs
        | destination => exact hs
        | noDestination => exact hs.of_records rfl (by simp [State.clearDestination])
      · cases haccept
    | _ => cases hc

/-- Settles O13: appends, acknowledgements and the forming of frames each keep the numbers in order. -/
theorem sequencesStayConsecutive : Obligations.SequencesStayConsecutive :=
  step_keeps_alone (fun _ _ hs => hs) fun _ _ _ hs h =>
    (sequencesRun_iff _).2 (exec_keeps_runs ((sequencesRun_iff _).1 hs) h)

end Sys2Proof.Machine
end

section
/-! PROOFS. Chapter 9, the notice sender: its items keep fitting together (R139, R140, R141, R146). -/

namespace Sys2Proof.Machine

set_option Elab.async false

theorem Appended.outstanding {q q' : EventQueue} (h : Appended q q') : q'.outstanding = q.outstanding :=
  h.keeps (P := fun x => x.outstanding = q.outstanding)
    (fun _ _ _ _ _ _ hq => (EventQueue.append_outstanding _ _ _ _ _ _).trans hq) rfl

/-- The notice sender's items fit together over a list of outstanding records. -/
structure NoticeSender.Fits (n : NoticeSender) (outstanding : List Queued) : Prop where
  off : n.state = .off ↔ n.destination = none
  offEmpty : n.state = .off → outstanding = []
  timer : n.timer.isSome = true → n.state = .active ∧ outstanding ≠ []
  retries : n.retries ≤ 5 ∨ n.retries = 6 ∧ n.state = .stalled
  resend : ∀ k, n.resend = some k → holdsSeq k outstanding = true

theorem noticeSound_iff (s : State) : NoticeSound s ↔ s.notice.Fits s.events.outstanding :=
  ⟨fun ⟨off, offEmpty, timer, retries, resend⟩ => ⟨off, offEmpty, timer, retries, resend⟩,
    fun ⟨off, offEmpty, timer, retries, resend⟩ => ⟨off, offEmpty, timer, retries, resend⟩⟩

/-- Fitting together does not depend on the frame, the inbox or the timeout. -/
theorem NoticeSender.Fits.congr {s t : State} {l : List Queued} (h : Part.Same s t .noticeState)
    (hs : s.notice.Fits l) : t.notice.Fits l := by
  obtain ⟨estate, edestination, etimer, eretries, eresend⟩ := h
  obtain ⟨hoff, hempty, htimer, hretries, hresend⟩ := hs
  constructor <;> simpa only [estate, edestination, etimer, eretries, eresend]

/-! ## Sequence numbers that a list holds -/

theorem holdsSeq_iff {n : Half} {l : List Queued} : holdsSeq n l = true ↔ ∃ q ∈ l, q.record.seq = n := by
  simp [holdsSeq]

theorem holdsSeq_oldestSeq {n : Half} {l : List Queued} (h : oldestSeq l = some n) : holdsSeq n l = true := by
  cases l with
  | nil => cases h
  | cons q l =>
    cases h
    exact holdsSeq_iff.2 ⟨q, .head l, rfl⟩

theorem holdsSeq_mono {n : Half} {l l' : List Queued} (hl : l ⊆ l') (h : holdsSeq n l = true) : holdsSeq n l' = true := by
  obtain ⟨q, hq, e⟩ := holdsSeq_iff.1 h
  exact holdsSeq_iff.2 ⟨q, hl hq, e⟩

theorem dueRecords_subset (resend : Option Half) (l : List Queued) : dueRecords resend l ⊆ l := by
  cases resend with
  | none => exact List.nil_subset l
  | some n => exact (List.dropWhile_suffix _).subset

/-! ## The commands that change the notice sender's items -/

/-- An accepted acknowledgement keeps the items fitting (R145). -/
theorem NoticeSender.Fits.acknowledge {s : NoticeSender} {out : List Queued} (h : s.Fits out) (hon : s.state ≠ .off)
    (rest : List Queued) : (s.acknowledge rest).Fits rest := by
  have hstate : (s.acknowledge rest).state = .active := by
    cases hs : s.state <;> simp_all [NoticeSender.acknowledge]
  refine ⟨?_, ?_, ?_, .inl (Nat.zero_le 5), ?_⟩
  · rw [hstate, NoticeSender.acknowledge]
    simpa [hon] using h.off
  · rw [hstate]
    rintro ⟨⟩
  · intro htimer
    refine ⟨hstate, ?_⟩
    rintro rfl
    cases htimer
  · intro k hk
    simp only [NoticeSender.acknowledge] at hk
    split at hk
    · cases hk
    · split at hk
      · cases hk
        assumption
      · exact holdsSeq_oldestSeq hk

/-- A sender that is ACTIVE with a destination, its timer stopped and its retry count 0, fits where its resend point
does. -/
theorem NoticeSender.Fits.active {n : NoticeSender} {out : List Queued} (hstate : n.state = .active)
    (hdestination : n.destination ≠ none) (htimer : n.timer = none) (hretries : n.retries = 0)
    (hresend : ∀ k, n.resend = some k → holdsSeq k out = true) : n.Fits out where
  off := by simp [hstate, hdestination]
  offEmpty := by simp [hstate]
  timer := by simp [htimer]
  retries := by simp [hretries]
  resend := hresend

theorem NoticeSender.Fits.tick {n : NoticeSender} {out : List Queued} (h : n.Fits out) :
    NoticeSender.Fits { n with timer := tickTimer n.timer } out := by
  refine ⟨h.off, h.offEmpty, fun htimer => h.timer ?_, h.retries, h.resend⟩
  cases ht : n.timer with
  | none => rw [ht] at htimer; cases htimer
  | some k => rfl

/-- The outstanding records after a NOTICE frame is formed hold those before (R142). -/
theorem formNotice_outstanding (s : State) (dst : Destination) :
    (s.formNotice dst).events.outstanding =
      s.events.outstanding ++ (s.events.unsent.take s.nextUnsentCount).map markCarried := by
  simp only [State.formNotice]
  split <;> rfl

theorem formNotice_notice (s : State) (dst : Destination) :
    (s.formNotice dst).notice =
      { s.notice with
        frame := some (s.noticeFor dst s.nextRecords)
        resend := oldestSeq ((dueRecords s.notice.resend s.events.outstanding).drop Config.recordsPerNotice)
        timer := match s.notice.timer with
          | none => some s.notice.timeoutTicks
          | some n => some n } := by
  simp only [State.formNotice]
  split <;> rfl

/-- With a record to carry, forming a frame keeps the items fitting (R141, R142). -/
theorem NoticeSender.Fits.formNotice {s : State} {dst : Destination} (h : s.notice.Fits s.events.outstanding)
    (hactive : s.notice.state = .active) (hnext : s.nextRecords ≠ []) :
    (s.formNotice dst).notice.Fits (s.formNotice dst).events.outstanding := by
  rw [formNotice_notice, formNotice_outstanding]
  have hout : s.events.outstanding ++ (s.events.unsent.take s.nextUnsentCount).map markCarried ≠ [] := by
    intro hnil
    rw [List.append_eq_nil_iff, List.map_eq_nil_iff] at hnil
    obtain ⟨houtstanding, hunsent⟩ := hnil
    have hdue : dueRecords s.notice.resend s.events.outstanding = [] :=
      List.subset_nil.1 (houtstanding ▸ dueRecords_subset s.notice.resend s.events.outstanding)
    exact hnext (by rw [State.nextRecords, State.nextDue, hdue, hunsent]; rfl)
  refine ⟨h.off, ?_, fun _ => ⟨hactive, hout⟩, h.retries, ?_⟩
  · simp [hactive]
  · intro k hk
    refine holdsSeq_mono ?_ (holdsSeq_oldestSeq hk)
    exact fun q hq =>
      List.mem_append_left _ (dueRecords_subset s.notice.resend s.events.outstanding (List.mem_of_mem_drop hq))

/-- What RETRANSMIT_TIMER_EXPIRY leads to (R146). -/
theorem execRetransmitTimerExpiry_cases {s t : State} (h : exec .retransmitTimerExpiry s = .next t) :
    t = s ∨ s.notice.timer = some 0 ∧
      ((5 < s.notice.retries + 1 ∧
        t = { s with notice := { s.notice with retries := s.notice.retries + 1, timer := none, state := .stalled } }) ∨
       (s.notice.retries + 1 ≤ 5 ∧
        t = { s.makeAllDue with notice :=
          { s.makeAllDue.notice with retries := s.notice.retries + 1, timer := some s.makeAllDue.notice.timeoutTicks } })) := by
  revert h
  simp only [exec, execRetransmitTimerExpiry]
  split
  · rename_i htimer
    split <;> rintro ⟨⟩
    · exact .inr ⟨htimer, .inl ⟨‹_›, rfl⟩⟩
    · exact .inr ⟨htimer, .inr ⟨by omega, rfl⟩⟩
  · rintro ⟨⟩
    exact .inl rfl

/-- The executions of requests keep the items fitting (R147, R148). -/
theorem Executed.keeps_fits {c : Instr} {s t : State} (hs : s.notice.Fits s.events.outstanding) (h : Executed c s t) :
    t.notice.Fits t.events.outstanding := by
  obtain rfl | ⟨r, rest, -, -, ⟨t, u, results, heffect, -, rfl⟩ | ⟨t, haccept, rfl⟩⟩ := h
  · exact hs
  · have hevents : (t.answered r u results).events = t.events := by simp [State.answered]
    have hnotice : (t.answered r u results).notice = t.notice := by simp [State.answered]
    rw [hevents, hnotice]
    have hkept : t.notice = s.notice → t.events.outstanding = s.events.outstanding →
        t.notice.Fits t.events.outstanding := fun hn ho => by rwa [hn, ho]
    cases heffect with
    | stop =>
      exact hkept (State.makeTransition_notice _ _ _) (State.makeTransition_appended _ _ _ .refl).outstanding
    | release =>
      exact hkept (State.makeTransition_notice _ _ _) (State.makeTransition_appended _ _ _ .refl).outstanding
    | override => exact hkept (State.recompute_notice _ _ _) (State.recompute_appended _ _ _ .refl).outstanding
    | header => exact hkept (by simp [State.writeShadow]) (by simp [State.writeShadow])
    | entries => exact hkept (by simp [State.writeShadow]) (by simp [State.writeShadow])
    | destination dst timeout => exact .active rfl nofun rfl rfl fun k hk => holdsSeq_oldestSeq hk
    | noDestination timeout =>
      exact ⟨by simp [State.clearDestination], fun _ => rfl, nofun, .inl (Nat.zero_le 5), nofun⟩
    | resumeEmpty hon hempty => exact .active rfl (fun hd => hon (hs.off.2 hd)) rfl rfl hs.resend
    | resume hon => exact .active rfl (fun hd => hon (hs.off.2 hd)) rfl rfl fun k hk => holdsSeq_oldestSeq hk
    | _ => exact hs
  · cases haccept <;> exact hs

theorem exec_keeps_fits {c : Instr} {s t : State} (hs : s.notice.Fits s.events.outstanding) (h : exec c s = .next t) :
    t.notice.Fits t.events.outstanding := by
  by_cases hrequest : c ∈ requestCommands
  · obtain ⟨t', e, hexecuted⟩ := exec_executed hrequest s
    cases h.symm.trans e
    exact hexecuted.keeps_fits hs
  cases c with
  | powerOnReset =>
    cases h
    exact ⟨⟨fun _ => rfl, fun _ => rfl⟩, fun _ => rfl, nofun, .inl (Nat.zero_le 5), nofun⟩
  | restart =>
    obtain ⟨r, rest, -, -, -, -, rfl⟩ | hrefused := execRestart_cases h
    · rw [State.respond_notice, State.respond_events]
      refine ⟨?_, fun _ => rfl, nofun, .inl (Nat.zero_le 5), nofun⟩
      simp only [State.restartAll, NoticeSender.restart]
      split <;> simp_all
    · exact hrefused.keeps_fits hs
  | noticeAck p =>
    obtain ⟨eevents, enotice⟩ | ⟨n, hn, eevents, enotice⟩ := execNoticeAck_cases h
    · rw [eevents, enotice]
      exact ⟨hs.off, hs.offEmpty, hs.timer, hs.retries, hs.resend⟩
    · have hout : t.events.outstanding = afterAck n s.events.outstanding := by
        rw [eevents]
        simp only [EventQueue.acknowledge]
        split <;> rfl
      have hon : s.notice.state ≠ .off := by
        intro hoff
        rw [hs.offEmpty hoff] at hn
        cases hn
      obtain ⟨hoff, hempty, htimer, hretries, hresend⟩ := hs.acknowledge hon (afterAck n s.events.outstanding)
      rw [hout, enotice]
      exact ⟨hoff, hempty, htimer, hretries, hresend⟩
  | tick =>
    cases h
    exact hs.tick
  | retransmitTimerExpiry =>
    obtain rfl | ⟨htimer, ⟨hmany, rfl⟩ | ⟨hfew, rfl⟩⟩ := execRetransmitTimerExpiry_cases h
    · exact hs
    all_goals
      obtain ⟨hactive, hout⟩ := hs.timer (by rw [htimer]; rfl)
      have hdst : s.notice.destination ≠ none := fun hd => by simp [hs.off.2 hd] at hactive
    · refine ⟨by simp [hdst], nofun, nofun, .inr ⟨?_, rfl⟩, hs.resend⟩
      have hretries := hs.retries
      simp only [hactive] at hretries
      simp at hretries ⊢
      omega
    · refine ⟨hs.off, hs.offEmpty, fun _ => ⟨hactive, hout⟩, .inl hfew, fun k hk => holdsSeq_oldestSeq hk⟩
  | noticeForming =>
    obtain rfl | ⟨dst, hactive, -, -, hnext, eevents, enotice⟩ := execNoticeForming_cases h
    · exact hs
    · rw [eevents, enotice]
      exact hs.formNotice hactive hnext
  | _ => first
    | exact absurd (by decide) hrequest
    | (rw [(exec_appended rfl h).outstanding]
       exact hs.congr (exec_within h .noticeState rfl))

/-- Settles O14: each command that changes the sender's items leaves them fitting. -/
theorem noticeSenderStaysSound : Obligations.NoticeSenderStaysSound :=
  step_keeps_alone (fun s _ hs => (noticeSound_iff _).2 ((noticeSound_iff s).1 hs)) fun _ _ _ hs h =>
    (noticeSound_iff _).2 (exec_keeps_fits ((noticeSound_iff _).1 hs) h)

end Sys2Proof.Machine
end

section
/-! PROOFS. The monitor unit and the disposition unit: what a transition does to both, which transitions there are, and
the two invariants that they keep. -/

namespace Sys2Proof.Machine

set_option Elab.async false

/-! ## What a transition does to the part (R73, R106, R108, R109) -/

/-- Recomputing a class that has just been written writes it once, with the effective disposition that follows. -/
theorem State.recompute_setClass (s : State) (c : ClassId) (k : ClassState) (w : Word) (old : Disposition)
    (hold : k.effective = old) :
    let new := effectiveOf k.override k.engaged
    (s.setClass c k).recompute c w =
      { s with
        classes := s.classes.set c.val { k with effective := new } c.isLt
        events := if new = old then s.events
          else s.events.append s.time .dispositionChange (byteOf c.val) (byteOf (dispositionCode new)) w
        store := { s.store with
          purges := if new ≠ old ∧ new = .block then s.store.purges ++ [c] else s.store.purges } } := by
  intro new
  subst hold
  have hk : (s.setClass c k).classState c = k := by simp
  simp only [State.recompute, hk]
  by_cases hsame : effectiveOf k.override k.engaged = k.effective
  · have hself : { k with effective := k.effective } = k := rfl
    simp only [new, hsame, if_true, ne_eq, not_true_eq_false, false_and, if_false]
    rfl
  · by_cases hblock : effectiveOf k.override k.engaged = .block
    · rw [hblock] at hsame
      simp [new, hsame, hblock, State.setClass, State.raise, State.requestPurge]
    · simp [new, hsame, hblock, State.setClass, State.raise]

/-- Settles O33: the record, then the event, then the report with what it brings. -/
theorem transitionsAreReported : Obligations.TransitionsAreReported := by
  intro s m r event engaged c k l new raised
  refine ⟨?_, ?_⟩
  · cases event <;> rfl
  · have hreport : ∀ t : State, t.monitors = s.monitors.set m.val ⟨c, r⟩ m.isLt → t.classes = s.classes →
        t.report m engaged =
          (t.setClass c.cls { k with engaged := l }).recompute c.cls (BitVec.ofNat 32 m.val) := by
      intro t hmonitors hclasses
      have hconfig : (t.monitor m).config = c := by simp [State.monitor, hmonitors]
      simp only [State.report, hconfig, State.classState, hclasses]
      rfl
    cases event with
    | none =>
      exact (hreport (s.setMonitor m ⟨c, r⟩) rfl rfl).trans (State.recompute_setClass _ _ _ _ _ rfl)
    | some e =>
      obtain ⟨kind, q, v⟩ := e
      exact (hreport ((s.setMonitor m ⟨c, r⟩).raise kind (byteOf m.val) q v) rfl rfl).trans (State.recompute_setClass _ _ _ _ _ rfl)

end Sys2Proof.Machine
end

section
/-! PROOFS. What a command can do to the monitors and the classes, and the two invariants of these units. -/

namespace Sys2Proof.Machine

set_option Elab.async false

/-! ## What commands do to the monitors and the classes -/

/-- The transitions that a monitor makes: at a frame of its class, at the expiry of each of its timers, and at the two
commands that stop and release it. -/
inductive Monitor.Makes (x : Monitor) : Transition → Prop
  | frame (hon : x.run.state ≠ .off) (slots : Slots) : Makes x (takeFrame x slots)
  | delay : Makes x (delayExpires x.config x.run)
  | recovery : Makes x (recoveryExpires x.config x.run)
  | silence : Makes x (silenceExpires x.config x.run)
  | decay : Makes x (decayExpires x.config x.run)
  | latchExpiry : Makes x (latchExpires x.config x.run)
  | stop : Makes x ⟨.off, none, if isEngaged x.run.state then some false else none⟩
  | release (hlatched : x.run.state = .latched) : Makes x (releaseLatch x.config x.run 1)

/-- What a command can do to the monitors and to the classes. -/
inductive UnitMove : State → State → Prop
  | same {s t : State} (hm : t.monitors = s.monitors) (hc : t.classes = s.classes) : UnitMove s t
  | transition (s : State) (m : MonitorId) {t : Transition} (h : (s.monitor m).Makes t) :
      UnitMove s (s.makeTransition m t)
  | config (s : State) (m : MonitorId) {c : MonitorConfig} (hoff : (s.monitor m).run.state = .off)
      (hlegal : legalConfig c = true) : UnitMove s (s.setMonitor m { s.monitor m with config := c })
  | start (s : State) (m : MonitorId) (hoff : (s.monitor m).run.state = .off) :
      UnitMove s (s.setMonitor m { s.monitor m with run := started (s.monitor m).config })
  | override (s : State) (c : ClassId) (o : Override) :
      UnitMove s ((s.setClass c { s.classState c with override := o }).recompute c 256)
  | tick {s t : State} (hm : t.monitors = s.monitors.map tickMonitor) (hc : t.classes = s.classes) : UnitMove s t
  | reset {s t : State} (hm : t.monitors = Vector.replicate 48 .powerOn) (hc : t.classes = Vector.replicate 32 .powerOn) :
      UnitMove s t
  | restart {s t : State} (hm : t.monitors = s.monitors.map Monitor.restart)
      (hc : t.classes = s.classes.map ClassState.restart) : UnitMove s t
  | trans {s t u : State} (h : UnitMove s t) (h' : UnitMove t u) : UnitMove s u

theorem UnitMove.refl (s : State) : UnitMove s s := .same rfl rfl

theorem State.monitorTakes_unitMove (d : Screened) (s : State) (m : MonitorId) : UnitMove s (State.monitorTakes d s m) := by
  simp only [State.monitorTakes]
  split
  · rename_i h
    exact .transition s m (.frame h.1 d.slots)
  · exact .refl s

theorem State.monitorsTake_unitMove (s : State) (d : Screened) : UnitMove s (s.monitorsTake d) := by
  rw [State.monitorsTake]
  generalize List.finRange 48 = ms
  induction ms generalizing s with
  | nil => exact .refl s
  | cons m ms ih => exact .trans (State.monitorTakes_unitMove d s m) (ih _)

theorem State.takeExpiry_unitMove (s : State) (m : MonitorId) (timer : MonitorRuntime → Timer)
    {expires : MonitorConfig → MonitorRuntime → Transition} (h : ∀ x : Monitor, x.Makes (expires x.config x.run)) :
    UnitMove s (s.takeExpiry m timer expires) := by
  simp only [State.takeExpiry]
  split
  · exact .transition s m (h _)
  · exact .refl s

theorem Effect.unitMove {s t : State} {c : Instr} (h : Effect s c t) : UnitMove s t := by
  cases h with
  | config hoff hlegal => exact .config s _ hoff hlegal
  | start hoff => exact .start s _ hoff
  | stop hon => exact .transition s _ .stop
  | release hlatched => exact .transition s _ (.release hlatched)
  | override c o => exact .override s c o
  | header => exact .same (State.setBank_monitors _ _ _) (State.setBank_classes _ _ _)
  | entries => exact .same (State.setBank_monitors _ _ _) (State.setBank_classes _ _ _)
  | _ => exact .same rfl rfl

theorem Executed.unitMove {c : Instr} {s t : State} (h : Executed c s t) : UnitMove s t := by
  obtain rfl | ⟨r, rest, -, -, ⟨t, u, results, heffect, -, rfl⟩ | ⟨t, haccept, rfl⟩⟩ := h
  · exact .refl _
  · have hanswer : UnitMove t (t.answered r u results) := .same (by simp [State.answered]) (by simp [State.answered])
    have hqueue : UnitMove s s.dequeue := .same rfl rfl
    exact (hqueue.trans heffect.unitMove).trans hanswer
  · cases haccept <;> exact .same rfl rfl

theorem exec_unitMove {c : Instr} {s t : State} (h : exec c s = .next t) : UnitMove s t := by
  by_cases hrequest : c ∈ requestCommands
  · obtain ⟨t', e, hexecuted⟩ := exec_executed hrequest s
    cases h.symm.trans e
    exact hexecuted.unitMove
  cases c with
  | powerOnReset =>
    cases h
    exact .reset rfl rfl
  | restart =>
    obtain ⟨r, rest, -, -, -, -, rfl⟩ | hrefused := execRestart_cases h
    · refine .restart ?_ ?_
      · rw [State.respond_monitors]
        rfl
      · rw [State.respond_classes]
        rfl
    · exact hrefused.unitMove
  | tick =>
    cases h
    exact .tick rfl rfl
  | monitorTakeFrame =>
    revert h
    simp only [exec, execMonitorTakeFrame]
    split <;> rintro ⟨⟩
    · rename_i d _ _ _
      have hm := State.decideFrame_monitors (s.monitorsTake d) d
      have hc := State.decideFrame_classes (s.monitorsTake d) d
      exact (s.monitorsTake_unitMove d).trans (.same hm hc)
    · exact .refl _
  | delayTimerExpiry m =>
    cases h
    exact s.takeExpiry_unitMove m _ fun _ => .delay
  | recoveryTimerExpiry m =>
    cases h
    exact s.takeExpiry_unitMove m _ fun _ => .recovery
  | silenceTimerExpiry m =>
    cases h
    exact s.takeExpiry_unitMove m _ fun _ => .silence
  | decayTimerExpiry m =>
    cases h
    exact s.takeExpiry_unitMove m _ fun _ => .decay
  | latchExpiryTimerExpiry m =>
    cases h
    exact s.takeExpiry_unitMove m _ fun _ => .latchExpiry
  | _ => first
    | exact absurd (by decide) hrequest
    | exact .same (exec_within h .monitors rfl) (exec_within h .classes rfl)

/-! ## The transitions of one monitor -/

/-- Settles O30, by the three cases of the limit. -/
theorem tripsAreCountedAgainstTheLimit : Obligations.TripsAreCountedAgainstTheLimit := by
  intro c r q v
  have hzero : c.latchLimit = 0 ↔ c.latchLimit.val = 0 := Fin.ext_iff
  refine ⟨fun h => ?_, fun h => ?_, fun h => ?_⟩
  · simp only [trip]
    rw [if_pos (hzero.2 h)]
    rfl
  · simp only [trip]
    rw [if_neg (by omega), if_neg (by omega)]
    rfl
  · simp only [trip]
    rw [if_neg (by omega), if_pos h]
    rfl

/-! ## A monitor's records fit its state -/

section

variable {c : MonitorConfig} {r : MonitorRuntime}

/-- An ABOVE or BELOW monitor that is ON stays sound when it records a sample. -/
theorem MonitorSound.sampled (h : MonitorSound ⟨c, r⟩) (hkind : c.kind ≠ .stale) (hon : r.state ≠ .off) (v : Word) :
    MonitorSound ⟨c, { r with lastSample := some v }⟩ :=
  ⟨h.config, fun hoff => absurd hoff hon, h.counter, h.latched, h.delay, h.recovery, h.decay, h.expiry, h.silence,
    fun hstale => absurd hstale hkind⟩

/-- A STALE monitor in a state with a silence timer stays sound when that timer starts again. -/
theorem MonitorSound.heard (h : MonitorSound ⟨c, r⟩) (hkind : c.kind = .stale)
    (hstate : r.state = .normal ∨ r.state = .recovering) (n : Nat) : MonitorSound ⟨c, { r with silence := some n }⟩ :=
  ⟨h.config, fun hoff => by simp_all, h.counter, h.latched, h.delay, h.recovery, h.decay, h.expiry, by simp_all,
    h.lastSample⟩

theorem MonitorSound.trip (h : MonitorSound ⟨c, r⟩) (hstate : r.state = .normal ∨ r.state = .alert) (q : Byte) :
    MonitorSound ⟨c, (Machine.trip c { r with silence := none } q).run⟩ := by
  obtain ⟨hzero, hbelow, hat⟩ := tripsAreCountedAgainstTheLimit c { r with silence := none } q
  obtain ⟨hconfig, hoff, hcounter, hlatched, hdelay, hrecovery, hdecay, hexpiry, hsilence, hlast⟩ := h
  dsimp only at hcounter hlatched hrecovery hexpiry hlast
  have hon : r.state ≠ .latched ∧ r.state ≠ .recovering := by rcases hstate with e | e <;> simp [e]
  simp only [hon.1, hon.2, false_iff, false_and, Bool.not_eq_true, Option.isSome_eq_false_iff, Option.isNone_iff_eq_none,
    iff_false] at hlatched hrecovery hexpiry
  obtain hl | hl | hl : c.latchLimit.val = 0 ∨ r.latchCounter + 1 < c.latchLimit.val ∨
    r.latchCounter + 1 = c.latchLimit.val := by omega
  · rw [hzero hl]
    exact ⟨hconfig, nofun, hcounter, by simp [hl], by simp, by simp [hrecovery], by simp, by simp [hexpiry], by simp,
      hlast⟩
  · rw [hbelow hl]
    exact ⟨hconfig, nofun, hl.le, by simp; omega, by simp, by simp [hrecovery], by simp, by simp [hexpiry], by simp,
      hlast⟩
  · rw [hat hl]
    exact ⟨hconfig, nofun, hl.le, by simp; omega, by simp, by simp [hrecovery], by simp,
      by simp, by simp, hlast⟩

/-- The offending condition of a NORMAL monitor whose silence timer does not run. -/
theorem MonitorSound.offend (h : MonitorSound ⟨c, r⟩) (hstate : r.state = .normal) (q : Byte) (v : Word) :
    MonitorSound ⟨c, (Machine.offend c { r with silence := none } q v).run⟩ := by
  simp only [Machine.offend]
  split
  · exact h.trip (.inl hstate) 1
  · obtain ⟨hconfig, hoff, hcounter, hlatched, hdelay, hrecovery, hdecay, hexpiry, hsilence, hlast⟩ := h
    simp only [hstate] at hlatched hrecovery hdecay hexpiry
    exact ⟨hconfig, nofun, hcounter, by simpa using hlatched, by simp, by simpa using hrecovery, by simpa using hdecay,
      by simpa using hexpiry, by simp, hlast⟩

/-- A clear enters NORMAL, with the decay timer where the latch counter is above 0. -/
theorem MonitorSound.clear (h : MonitorSound ⟨c, r⟩) (hstate : r.state = .tripped ∨ r.state = .recovering) {x y : Timer}
    (hx : x.isSome = true ↔ c.kind = .stale) (q : Byte) :
    MonitorSound ⟨c, (Machine.clear c { r with silence := x, recovery := y } q).run⟩ := by
  obtain ⟨hconfig, hoff, hcounter, hlatched, hdelay, hrecovery, hdecay, hexpiry, hsilence, hlast⟩ := h
  have hon : r.state ≠ .latched ∧ r.state ≠ .alert ∧ r.state ≠ .normal := by rcases hstate with e | e <;> simp [e]
  simp only [hon, false_iff, false_and, or_self] at hlatched hdelay hdecay hexpiry
  refine ⟨hconfig, nofun, hcounter, ?_, ?_, ?_, ?_, ?_, ?_, hlast⟩
  · simpa [Machine.clear] using hlatched
  · simp [Machine.clear, hdelay]
  · simp [Machine.clear]
  · by_cases hn : 0 < r.latchCounter
    · simp [Machine.clear, hn]
    · simp [Machine.clear, hn, hdecay]
  · simp [Machine.clear, hexpiry]
  · simpa [Machine.clear] using hx

/-- The qualifying condition of a TRIPPED monitor. -/
theorem MonitorSound.recover (h : MonitorSound ⟨c, r⟩) (hstate : r.state = .tripped) {x : Timer}
    (hx : x.isSome = true ↔ c.kind = .stale) : MonitorSound ⟨c, (Machine.recover c { r with silence := x }).run⟩ := by
  simp only [Machine.recover]
  split
  · exact h.clear (.inl hstate) hx 1
  · obtain ⟨hconfig, hoff, hcounter, hlatched, hdelay, hrecovery, hdecay, hexpiry, hsilence, hlast⟩ := h
    simp only [hstate] at hlatched hdelay hdecay hexpiry
    exact ⟨hconfig, nofun, hcounter, by simpa [quietly] using hlatched, by simpa [quietly] using hdelay,
      by simp [quietly], by simpa [quietly] using hdecay, by simpa [quietly] using hexpiry, by simpa [quietly] using hx,
      hlast⟩

/-- Leaving LATCHED for NORMAL with the latch counter at 0. -/
theorem MonitorSound.releaseLatch (h : MonitorSound ⟨c, r⟩) (hstate : r.state = .latched) (q : Byte) :
    MonitorSound ⟨c, (Machine.releaseLatch c r q).run⟩ := by
  obtain ⟨hconfig, hoff, hcounter, hlatched, hdelay, hrecovery, hdecay, hexpiry, hsilence, hlast⟩ := h
  simp only [hstate] at hlatched hdelay hrecovery hdecay hsilence
  refine ⟨hconfig, nofun, Nat.zero_le _, ?_, ?_, ?_, ?_, ?_, ?_, hlast⟩
  · simp [Machine.releaseLatch]
    omega
  · simpa [Machine.releaseLatch] using hdelay
  · simpa [Machine.releaseLatch] using hrecovery
  · simpa [Machine.releaseLatch] using hdecay
  · simp [Machine.releaseLatch]
  · simp only [reduceCtorEq, or_self, and_false, iff_false] at hsilence
    by_cases hkind : c.kind = .stale
    · simp [Machine.releaseLatch, hkind]
    · simp [Machine.releaseLatch, hkind, hsilence]

/-- A RECOVERING monitor, its silence timer stopped, falls back to TRIPPED. -/
theorem MonitorSound.fallBack (h : MonitorSound ⟨c, r⟩) (hstate : r.state = .recovering) :
    MonitorSound ⟨c, { r with state := .tripped, recovery := none, silence := none }⟩ := by
  obtain ⟨hconfig, hoff, hcounter, hlatched, hdelay, hrecovery, hdecay, hexpiry, hsilence, hlast⟩ := h
  simp only [hstate] at hlatched hdelay hdecay hexpiry
  exact ⟨hconfig, nofun, hcounter, by simpa using hlatched, by simpa using hdelay, by simp, by simpa using hdecay,
    by simpa using hexpiry, by simp, hlast⟩

/-- An ALERT monitor goes back to NORMAL. -/
theorem MonitorSound.calm (h : MonitorSound ⟨c, r⟩) (hstate : r.state = .alert) {x : Timer}
    (hx : x.isSome = true ↔ c.kind = .stale) :
    MonitorSound ⟨c, { r with state := .normal, delay := none, silence := x }⟩ := by
  obtain ⟨hconfig, hoff, hcounter, hlatched, hdelay, hrecovery, hdecay, hexpiry, hsilence, hlast⟩ := h
  simp only [hstate] at hlatched hrecovery hdecay hexpiry
  exact ⟨hconfig, nofun, hcounter, by simpa using hlatched, by simp, by simpa using hrecovery, by simpa using hdecay,
    by simpa using hexpiry, by simpa using hx, hlast⟩

/-- The silence timer of an ABOVE or BELOW monitor never runs. -/
theorem MonitorSound.silence_of_kind (h : MonitorSound ⟨c, r⟩) (hkind : c.kind ≠ .stale) : r.silence = none := by
  simpa [hkind] using h.silence

/-- The silence timer of a RECOVERING monitor runs exactly for STALE. -/
theorem MonitorSound.silence_of_recovering (h : MonitorSound ⟨c, r⟩) (hstate : r.state = .recovering) :
    r.silence.isSome = true ↔ c.kind = .stale := by
  simpa [hstate] using h.silence

/-- One sample leaves an ABOVE or BELOW monitor that is ON sound (R77..R80). -/
theorem MonitorSound.takeSample (h : MonitorSound ⟨c, r⟩) (hkind : c.kind ≠ .stale) (hon : r.state ≠ .off) (v : Word) :
    MonitorSound ⟨c, (Machine.takeSample c r v).run⟩ := by
  have hsampled := h.sampled hkind hon v
  have hsilence := h.silence_of_kind hkind
  have hnone : r.silence.isSome = true ↔ c.kind = .stale := by simp [hsilence, hkind]
  obtain ⟨state, counter, last, delay, recovery, silence, decay, expiry⟩ := r
  dsimp only at hsilence
  subst hsilence
  simp only [Machine.takeSample]
  split
  · exact hsampled.offend rfl 1 v
  · exact hsampled.calm rfl hnone
  · exact hsampled.calm rfl hnone
  · exact hsampled.recover rfl hnone
  · exact hsampled.fallBack rfl
  · exact hsampled.fallBack rfl
  · exact hsampled

/-- One arrival leaves a STALE monitor sound (R82..R85). -/
theorem MonitorSound.takeArrival (h : MonitorSound ⟨c, r⟩) (hkind : c.kind = .stale) :
    MonitorSound ⟨c, (Machine.takeArrival c r).run⟩ := by
  simp only [Machine.takeArrival]
  split
  · exact h.heard hkind (.inl ‹_›) _
  · exact h.calm ‹_› (by simp [hkind])
  · exact h.recover ‹_› (by simp [hkind])
  · exact h.heard hkind (.inr ‹_›) _
  · exact h
  · exact h

theorem MonitorSound.delayExpires (h : MonitorSound ⟨c, r⟩) : MonitorSound ⟨c, (Machine.delayExpires c r).run⟩ := by
  simp only [Machine.delayExpires]
  split
  · rename_i hstate
    have hsilence : r.silence = none := by simpa [hstate] using h.silence
    have htrip := h.trip (.inr hstate) 2
    rw [← hsilence] at htrip
    exact htrip
  · rename_i hstate
    exact ⟨h.config, fun hoff => by obtain rfl : r = .off := h.off hoff; rfl, h.counter, h.latched, by simpa [quietly] using hstate,
      h.recovery, h.decay, h.expiry, h.silence, h.lastSample⟩

theorem MonitorSound.recoveryExpires (h : MonitorSound ⟨c, r⟩) :
    MonitorSound ⟨c, (Machine.recoveryExpires c r).run⟩ := by
  simp only [Machine.recoveryExpires]
  split
  · exact h.clear (.inr ‹_›) (h.silence_of_recovering ‹_›) 2
  · rename_i hstate
    exact ⟨h.config, fun hoff => by obtain rfl : r = .off := h.off hoff; rfl, h.counter, h.latched, h.delay,
      by simpa [quietly] using hstate, h.decay, h.expiry, h.silence, h.lastSample⟩

theorem MonitorSound.silenceExpires (h : MonitorSound ⟨c, r⟩) : MonitorSound ⟨c, (Machine.silenceExpires c r).run⟩ := by
  simp only [Machine.silenceExpires]
  split
  · exact h.offend ‹_› 2 0
  · exact h.fallBack ‹_›
  · rename_i hnormal hrecovering
    exact ⟨h.config, fun hoff => by obtain rfl : r = .off := h.off hoff; rfl, h.counter, h.latched, h.delay, h.recovery,
      h.decay, h.expiry, by simpa [quietly] using fun _ => ⟨hnormal, hrecovering⟩, h.lastSample⟩

/-- One decay of the latch counter of a NORMAL or ALERT monitor (R96). -/
theorem MonitorSound.decayed (h : MonitorSound ⟨c, r⟩) (hstate : r.state = .normal ∨ r.state = .alert) :
    MonitorSound ⟨c, { r with
      latchCounter := r.latchCounter - 1
      decay := if 0 < r.latchCounter - 1 then some (decayLength c) else none }⟩ := by
  have hcounter := h.counter
  have hlatched := h.latched
  dsimp only at hcounter hlatched
  have hunlatched : r.state ≠ .latched := by rcases hstate with e | e <;> simp [e]
  refine ⟨h.config, fun hoff => ?_, ?_, ?_, h.delay, h.recovery, ?_, h.expiry, h.silence, h.lastSample⟩
  · dsimp only at hoff
    rcases hstate with e | e <;> cases hoff.symm.trans e
  · dsimp only
    omega
  · simp only [hunlatched, false_iff] at hlatched ⊢
    omega
  · dsimp only
    by_cases hleft : 0 < r.latchCounter - 1 <;> simp [hleft, hstate]

theorem MonitorSound.decayExpires (h : MonitorSound ⟨c, r⟩) : MonitorSound ⟨c, (Machine.decayExpires c r).run⟩ := by
  simp only [Machine.decayExpires]
  split
  · exact h.decayed (.inl ‹_›)
  · exact h.decayed (.inr ‹_›)
  · rename_i hnormal halert
    exact ⟨h.config, fun hoff => by obtain rfl : r = .off := h.off hoff; rfl, h.counter, h.latched, h.delay, h.recovery,
      by simpa [quietly] using fun e => (e.elim hnormal halert).elim, h.expiry, h.silence, h.lastSample⟩

theorem MonitorSound.latchExpires (h : MonitorSound ⟨c, r⟩) : MonitorSound ⟨c, (Machine.latchExpires c r).run⟩ := by
  simp only [Machine.latchExpires]
  split
  · exact h.releaseLatch ‹_› 2
  · rename_i hstate
    exact ⟨h.config, fun hoff => by obtain rfl : r = .off := h.off hoff; rfl, h.counter, h.latched, h.delay, h.recovery,
      h.decay, by simpa [quietly] using fun e => (hstate e).elim, h.silence, h.lastSample⟩

theorem MonitorSound.ofOff (h : legalConfig c = true) : MonitorSound ⟨c, .off⟩ :=
  ⟨h, fun _ => rfl, Nat.zero_le _, by simp [MonitorRuntime.off]; omega, by simp [MonitorRuntime.off],
    by simp [MonitorRuntime.off], by simp [MonitorRuntime.off], by simp [MonitorRuntime.off],
    by simp [MonitorRuntime.off], fun _ => rfl⟩

theorem MonitorSound.ofStarted (h : legalConfig c = true) : MonitorSound ⟨c, started c⟩ := by
  refine ⟨h, nofun, Nat.zero_le _, ?_, ?_, ?_, ?_, ?_, ?_, fun _ => rfl⟩
  · simp [started, MonitorRuntime.off]
    omega
  · simp [started, MonitorRuntime.off]
  · simp [started, MonitorRuntime.off]
  · simp [started, MonitorRuntime.off]
  · simp [started, MonitorRuntime.off]
  · by_cases hkind : c.kind = .stale <;> simp [started, hkind]

end

theorem MonitorSound.takeFrame {x : Monitor} (h : MonitorSound x) (hon : x.run.state ≠ .off) (slots : Slots) :
    MonitorSound ⟨x.config, (Machine.takeFrame x slots).run⟩ := by
  unfold Machine.takeFrame
  split
  · exact MonitorSound.takeArrival h ‹_›
  · split
    · exact MonitorSound.takeSample h ‹_› hon _
    · exact h

/-- Every transition that a monitor makes leaves it sound. -/
theorem MonitorSound.makes {x : Monitor} {t : Transition} (h : MonitorSound x) (ht : x.Makes t) :
    MonitorSound { x with run := t.run } := by
  cases ht with
  | frame hon slots => exact h.takeFrame hon slots
  | delay => exact MonitorSound.delayExpires h
  | recovery => exact MonitorSound.recoveryExpires h
  | silence => exact MonitorSound.silenceExpires h
  | decay => exact MonitorSound.decayExpires h
  | latchExpiry => exact MonitorSound.latchExpires h
  | stop => exact MonitorSound.ofOff h.config
  | release hlatched => exact MonitorSound.releaseLatch h hlatched 1

theorem tickTimer_isSome (t : Timer) : (tickTimer t).isSome = t.isSome := by cases t <;> rfl

theorem MonitorSound.tick {x : Monitor} (h : MonitorSound x) : MonitorSound (tickMonitor x) := by
  refine ⟨h.config, fun hoff => ?_, h.counter, h.latched, ?_, ?_, ?_, ?_, ?_, h.lastSample⟩
  · have hrun := h.off hoff
    rw [tickMonitor, hrun]
    rfl
  · exact (tickTimer_isSome _).symm ▸ h.delay
  · exact (tickTimer_isSome _).symm ▸ h.recovery
  · exact (tickTimer_isSome _).symm ▸ h.decay
  · exact (tickTimer_isSome _).symm ▸ h.expiry
  · exact (tickTimer_isSome _).symm ▸ h.silence

theorem MonitorSound.restart {x : Monitor} (h : MonitorSound x) : MonitorSound x.restart := by
  unfold Monitor.restart
  split
  · exact h
  · exact MonitorSound.ofStarted h.config

/-! ## The monitors of the part -/

theorem State.monitor_of_map {s t : State} {f : Monitor → Monitor} (h : t.monitors = s.monitors.map f) (m : MonitorId) :
    t.monitor m = f (s.monitor m) := by
  simp [State.monitor, h]

theorem State.monitor_of_replicate {t : State} {x : Monitor} (h : t.monitors = Vector.replicate 48 x) (m : MonitorId) :
    t.monitor m = x := by
  simp [State.monitor, h]

theorem State.monitor_congr {s t : State} (h : t.monitors = s.monitors) (m : MonitorId) : t.monitor m = s.monitor m := by
  simp [State.monitor, h]

theorem State.makeTransition_monitors (s : State) (m : MonitorId) (t : Transition) :
    (s.makeTransition m t).monitors = (s.setMonitor m { s.monitor m with run := t.run }).monitors := by
  obtain ⟨run, event, report⟩ := t
  cases report with
  | none => rw [(transitionsAreReported s m run event true).left]; rfl
  | some e => rw [(transitionsAreReported s m run event e).right]; rfl

/-- Writing one monitor that is sound keeps every monitor sound. -/
theorem MonitorsSound.set {s t : State} (h : MonitorsSound s) {m : MonitorId} {x : Monitor} (hx : MonitorSound x)
    (ht : t.monitors = (s.setMonitor m x).monitors) : MonitorsSound t := by
  intro n
  rw [State.monitor_congr ht]
  by_cases hn : n = m
  · rw [hn, State.monitor_setMonitor_same]
    exact hx
  · rw [State.monitor_setMonitor_of_ne s x hn]
    exact h n

theorem powerOn_sound : MonitorSound .powerOn := MonitorSound.ofOff (by decide)

theorem UnitMove.keeps_monitorsSound {s t : State} (hmove : UnitMove s t) (h : MonitorsSound s) : MonitorsSound t := by
  induction hmove with
  | same hm hc => exact fun m => (State.monitor_congr hm m).symm ▸ h m
  | transition s m ht => exact h.set ((h m).makes ht) (s.makeTransition_monitors m _)
  | config s m hoff hlegal =>
    have hrun : (s.monitor m).run = .off := (h m).off hoff
    refine h.set (x := ⟨_, (s.monitor m).run⟩) ?_ rfl
    rw [hrun]
    exact MonitorSound.ofOff hlegal
  | start s m hoff => exact h.set (MonitorSound.ofStarted (h m).config) rfl
  | override s c o => exact fun m => (State.monitor_congr (State.recompute_monitors _ _ _) m).symm ▸ h m
  | tick hm hc => exact fun m => (State.monitor_of_map hm m).symm ▸ (h m).tick
  | reset hm hc => exact fun m => (State.monitor_of_replicate hm m).symm ▸ powerOn_sound
  | restart hm hc => exact fun m => (State.monitor_of_map hm m).symm ▸ (h m).restart
  | trans _ _ ih ih' => exact ih' (ih h)

/-- Settles O11: every transition, start, tick and reset leaves each monitor sound. -/
theorem monitorsStaySound : Obligations.MonitorsStaySound :=
  step_keeps_alone (fun _ _ => id) fun _ _ _ hs h => (exec_unitMove h).keeps_monitorsSound hs

/-! ## The engaged lists (R105, R106) -/

theorem State.classState_congr {s t : State} (h : t.classes = s.classes) (c : ClassId) :
    t.classState c = s.classState c := by
  simp [State.classState, h]

/-- In a list of monitors in ascending number, adding an entry of monitor `m` puts it in the place of `m`. -/
theorem insertEngaged_filterMap {m : MonitorId} {e : Engaged} (he : e.monitor = m) {f : MonitorId → Option Engaged}
    (hf : ∀ n x, f n = some x → x.monitor = n) {l : List MonitorId} (hl : l.Pairwise (· < ·)) (hm : m ∈ l) :
    insertEngaged e (l.filterMap f) = l.filterMap fun n => if n = m then some e else f n := by
  induction l with
  | nil => cases hm
  | cons n rest ih =>
    obtain ⟨hhead, htail⟩ := List.pairwise_cons.1 hl
    by_cases hn : n = m
    · subst hn
      have hrest : ∀ k ∈ rest, k ≠ n := fun k hk => (hhead k hk).ne'
      have hsame : (rest.filterMap fun k => if k = n then some e else f k) = rest.filterMap f :=
        List.filterMap_congr fun k hk => by rw [if_neg (hrest k hk)]
      rw [List.filterMap_cons, List.filterMap_cons, if_pos rfl, hsame]
      cases hfn : f n with
      | some x => simp [insertEngaged, he, hf n x hfn]
      | none =>
        cases htailf : rest.filterMap f with
        | nil => rfl
        | cons y ys =>
          obtain ⟨k, hk, hky⟩ := List.mem_filterMap.1 (htailf ▸ List.mem_cons_self : y ∈ rest.filterMap f)
          simp [insertEngaged, he, hf k y hky, hhead k hk]
    · have hmem : m ∈ rest := (List.mem_cons.1 hm).resolve_left (Ne.symm hn)
      have hlt : n < m := hhead m hmem
      rw [List.filterMap_cons, List.filterMap_cons, if_neg hn]
      cases hfn : f n with
      | none => exact ih htail hmem
      | some x => simp [insertEngaged, he, hf n x hfn, hlt.not_gt, Ne.symm hn, ih htail hmem]

/-- Removing the entries of monitor `m` empties its place. -/
theorem removeEngaged_filterMap (m : MonitorId) {f : MonitorId → Option Engaged}
    (hf : ∀ n x, f n = some x → x.monitor = n) (l : List MonitorId) :
    removeEngaged m (l.filterMap f) = l.filterMap fun n => if n = m then none else f n := by
  rw [removeEngaged, List.filter_filterMap]
  refine List.filterMap_congr fun n _ => ?_
  cases hfn : f n with
  | none => simp
  | some x => by_cases hn : n = m <;> simp [hf n x hfn, hn]

theorem State.engagedEntry_monitor {s : State} {c : ClassId} {m : MonitorId} {x : Engaged}
    (h : s.engagedEntry c m = some x) : x.monitor = m := by
  simp only [State.engagedEntry] at h
  split at h <;> cases h
  rfl

theorem State.engagedEntry_congr {s t : State} {m : MonitorId} (hconfig : (t.monitor m).config = (s.monitor m).config)
    (hengaged : isEngaged (t.monitor m).run.state = isEngaged (s.monitor m).run.state) (c : ClassId) :
    t.engagedEntry c m = s.engagedEntry c m := by
  simp only [State.engagedEntry, hconfig, hengaged]

theorem State.engagedEntry_of_monitors {s t : State} (h : t.monitors = s.monitors) (c : ClassId) (m : MonitorId) :
    t.engagedEntry c m = s.engagedEntry c m := by
  simp only [State.engagedEntry, State.monitor_congr h]

theorem State.engagedEntry_of_not_engaged {s : State} {m : MonitorId} (h : isEngaged (s.monitor m).run.state = false)
    (c : ClassId) : s.engagedEntry c m = none := by
  simp [State.engagedEntry, h]

/-- What a transition reports is how it leaves the monitor; one that reports nothing leaves it engaged or not, as it
was (R73). -/
def Transition.Reports (x : Monitor) (t : Transition) : Prop :=
  isEngaged t.run.state = t.report.getD (isEngaged x.run.state)

theorem trip_reports (c : MonitorConfig) (r : MonitorRuntime) (q : Byte) (x : Monitor) :
    (trip c r q).Reports x := by
  simp only [trip]
  (repeat' split) <;> rfl

theorem offend_reports {c : MonitorConfig} {r : MonitorRuntime} {q : Byte} {v : Word} {x : Monitor}
    (h : isEngaged x.run.state = false) : (offend c r q v).Reports x := by
  simp only [offend]
  split
  · exact trip_reports ..
  · exact h.symm

theorem recover_reports {c : MonitorConfig} {r : MonitorRuntime} {x : Monitor} (h : isEngaged x.run.state = true) :
    (recover c r).Reports x := by
  simp only [recover]
  split
  · rfl
  · exact h.symm

theorem quietly_reports {r : MonitorRuntime} {x : Monitor} (h : isEngaged r.state = isEngaged x.run.state) :
    (quietly r).Reports x := h

theorem takeSample_reports (c : MonitorConfig) (r : MonitorRuntime) (v : Word) : (takeSample c r v).Reports ⟨c, r⟩ := by
  obtain ⟨state, counter, last, delay, recovery, silence, decay, expiry⟩ := r
  simp only [takeSample]
  split
  · exact offend_reports rfl
  · exact quietly_reports rfl
  · exact quietly_reports rfl
  · exact recover_reports rfl
  · exact quietly_reports rfl
  · exact quietly_reports rfl
  · exact quietly_reports rfl

theorem takeArrival_reports (c : MonitorConfig) (r : MonitorRuntime) : (takeArrival c r).Reports ⟨c, r⟩ := by
  obtain ⟨state, counter, last, delay, recovery, silence, decay, expiry⟩ := r
  cases state with
  | tripped => exact recover_reports rfl
  | _ => exact quietly_reports rfl

theorem Monitor.Makes.reports {x : Monitor} {t : Transition} (h : x.Makes t) : t.Reports x := by
  obtain ⟨c, run⟩ := x
  cases h with
  | frame hon slots =>
    simp only [takeFrame]
    split
    · exact takeArrival_reports c run
    · split
      · exact takeSample_reports c run _
      · rfl
  | delay =>
    simp only [delayExpires]
    split
    · exact trip_reports ..
    · rfl
  | recovery =>
    simp only [recoveryExpires]
    split <;> rfl
  | silence =>
    simp only [silenceExpires]
    split
    · rename_i hstate
      exact offend_reports (by rw [hstate]; rfl)
    · rename_i hstate
      simp [Transition.Reports, quietly, hstate, isEngaged]
    · rfl
  | decay =>
    simp only [decayExpires]
    split <;> rfl
  | latchExpiry =>
    simp only [latchExpires]
    split <;> rfl
  | stop =>
    simp only [Transition.Reports]
    split
    · rfl
    · exact (Bool.eq_false_of_not_eq_true ‹_›).symm
  | release hlatched => rfl

/-! ## The classes of the part -/

theorem State.makeTransition_monitor (s : State) (m n : MonitorId) (t : Transition) :
    (s.makeTransition m t).monitor n = if n = m then { s.monitor m with run := t.run } else s.monitor n := by
  rw [State.monitor_congr (s.makeTransition_monitors m t)]
  split
  · rename_i hn
    rw [hn, State.monitor_setMonitor_same]
  · exact State.monitor_setMonitor_of_ne s _ ‹_›

/-- The entry of a monitor after a transition that reports rightly. -/
theorem State.engagedEntry_makeTransition {s : State} {m : MonitorId} {t : Transition} (h : t.Reports (s.monitor m))
    (c : ClassId) (n : MonitorId) : (s.makeTransition m t).engagedEntry c n =
      match t.report with
      | none => s.engagedEntry c n
      | some engaged =>
        if n = m ∧ (s.monitor m).config.cls = c then
          if engaged then some ⟨m, (s.monitor m).config.consequence, (s.monitor m).config.slot⟩ else none
        else s.engagedEntry c n := by
  have hmonitor := s.makeTransition_monitor m n t
  by_cases hn : n = m
  · subst hn
    rw [if_pos rfl] at hmonitor
    simp only [Transition.Reports] at h
    simp only [State.engagedEntry, hmonitor, h]
    cases hreport : t.report with
    | none => simp
    | some engaged => cases engaged <;> by_cases hc : (s.monitor n).config.cls = c <;> simp [hc]
  · rw [if_neg hn] at hmonitor
    simp only [hn, false_and, if_false]
    have hentry : (s.makeTransition m t).engagedEntry c n = s.engagedEntry c n := by simp only [State.engagedEntry, hmonitor]
    rw [hentry]
    cases t.report <;> rfl

theorem State.classState_of_set {s t : State} {c : ClassId} {k : ClassState}
    (h : t.classes = s.classes.set c.val k c.isLt) (n : ClassId) :
    t.classState n = if n = c then k else s.classState n := by
  rw [State.classState_congr (s := s.setClass c k) h]
  split
  · rename_i hn
    rw [hn, State.classState_setClass_same]
  · exact State.classState_setClass_of_ne s k ‹_›

/-- Class `c` has the list and the disposition that the monitors give it. -/
def State.ClassDerived (s : State) (c : ClassId) (k : ClassState) : Prop :=
  k.engaged = (List.finRange 48).filterMap (s.engagedEntry c) ∧ k.effective = effectiveOf k.override k.engaged

theorem State.ClassDerived.congr {s t : State} {c : ClassId} {k : ClassState} (h : s.ClassDerived c k)
    (hentry : ∀ m, t.engagedEntry c m = s.engagedEntry c m) : t.ClassDerived c k := by
  rwa [State.ClassDerived, funext hentry]

theorem State.ClassDerived.makeTransition {s : State} (h : DispositionsDerived s) {m : MonitorId} {t : Transition}
    (ht : t.Reports (s.monitor m)) (c : ClassId) :
    (s.makeTransition m t).ClassDerived c ((s.makeTransition m t).classState c) := by
  have hentry := State.engagedEntry_makeTransition ht c
  obtain ⟨run, event, report⟩ := t
  cases report with
  | none =>
    have hclasses : (s.makeTransition m ⟨run, event, none⟩).classes = s.classes := by
      rw [(transitionsAreReported s m run event true).left]
    rw [State.classState_congr hclasses]
    exact State.ClassDerived.congr (h c) hentry
  | some engaged =>
    have hclasses := congrArg State.classes (transitionsAreReported s m run event engaged).right
    by_cases hc : c = (s.monitor m).config.cls
    · subst hc
      rw [State.classState_of_set hclasses, if_pos rfl]
      refine ⟨?_, rfl⟩
      dsimp only at hentry ⊢
      rw [(h _).left]
      cases engaged with
      | true =>
        rw [if_pos rfl, insertEngaged_filterMap rfl (fun _ _ => State.engagedEntry_monitor)
          (List.sortedLT_finRange 48).pairwise (List.mem_finRange m)]
        exact List.filterMap_congr fun n _ => by simp [hentry n]
      | false =>
        exact (removeEngaged_filterMap m (fun _ _ => State.engagedEntry_monitor) _).trans
          (List.filterMap_congr fun n _ => by simp [hentry n])
    · rw [State.classState_of_set hclasses, if_neg hc]
      exact State.ClassDerived.congr (h c) fun n => by simp [hentry n, Ne.symm hc]

theorem isEngaged_restart (x : Monitor) : isEngaged x.restart.run.state = false := by
  unfold Monitor.restart
  split
  · rename_i hoff
    rw [hoff]
    rfl
  · rfl

/-- Where no monitor is engaged, an empty engaged list is the derived one. -/
theorem State.ClassDerived.ofEmpty {s : State} (h : ∀ m, isEngaged (s.monitor m).run.state = false) {c : ClassId}
    {k : ClassState} (hlist : k.engaged = []) (heffective : k.effective = effectiveOf k.override []) :
    s.ClassDerived c k := by
  refine ⟨?_, by rw [hlist]; exact heffective⟩
  rw [hlist, List.filterMap_eq_nil_iff.2 fun m _ => State.engagedEntry_of_not_engaged (h m) c]

/-- Writing a monitor that is not engaged, before and after, keeps the engaged lists. -/
theorem DispositionsDerived.set {s : State} (h : DispositionsDerived s) {m : MonitorId} {x : Monitor}
    (hbefore : isEngaged (s.monitor m).run.state = false) (hafter : isEngaged x.run.state = false) :
    DispositionsDerived (s.setMonitor m x) := by
  refine fun c => State.ClassDerived.congr (h c) fun n => ?_
  by_cases hn : n = m
  · subst hn
    rw [State.engagedEntry_of_not_engaged hbefore, State.engagedEntry_of_not_engaged (by simpa using hafter)]
  · simp only [State.engagedEntry, State.monitor_setMonitor_of_ne s x hn]

theorem UnitMove.keeps_dispositionsDerived {s t : State} (hmove : UnitMove s t) (h : DispositionsDerived s) :
    DispositionsDerived t := by
  induction hmove with
  | @same s t hm hc =>
    intro c
    rw [State.classState_congr hc]
    exact State.ClassDerived.congr (h c) (State.engagedEntry_of_monitors hm c)
  | transition s m ht => exact State.ClassDerived.makeTransition h ht.reports
  | config s m hoff hlegal => exact h.set (by rw [hoff]; rfl) (by dsimp only; rw [hoff]; rfl)
  | start s m hoff => exact h.set (by rw [hoff]; rfl) rfl
  | override s c o =>
    have hset := State.recompute_setClass s c { s.classState c with override := o } 256 _ rfl
    intro n
    have hentry : ∀ m, ((s.setClass c { s.classState c with override := o }).recompute c 256).engagedEntry n m =
        s.engagedEntry n m := State.engagedEntry_of_monitors (State.recompute_monitors _ _ _) n
    rw [State.classState_of_set (congrArg State.classes hset)]
    split
    · rename_i hn
      subst hn
      exact State.ClassDerived.congr (s := s) ⟨(h n).left, rfl⟩ hentry
    · exact State.ClassDerived.congr (h n) hentry
  | tick hm hc =>
    intro c
    rw [State.classState_congr hc]
    exact State.ClassDerived.congr (h c) fun m => by simp only [State.engagedEntry, State.monitor_of_map hm]; rfl
  | reset hm hc =>
    intro c
    refine State.ClassDerived.ofEmpty (fun m => by rw [State.monitor_of_replicate hm]; rfl) ?_ ?_ <;>
      simp [State.classState, hc, ClassState.powerOn, effectiveOf, asks]
  | restart hm hc =>
    intro c
    refine State.ClassDerived.ofEmpty (fun m => ?_) ?_ ?_
    · rw [State.monitor_of_map hm]
      exact isEngaged_restart _
    · simp [State.classState, hc, ClassState.restart]
    · simp [State.classState, hc, ClassState.restart]
  | trans _ _ ih ih' => exact ih' (ih h)

/-- Settles O12: each transition reports what it does to the monitor, and the report updates the list in its place. -/
theorem dispositionsStayDerived : Obligations.DispositionsStayDerived :=
  step_keeps_alone (fun _ _ => id) fun _ _ _ hs h => (exec_unitMove h).keeps_dispositionsDerived hs

end Sys2Proof.Machine
end

section
/-! PROOFS. What frames do to monitors (R74..R85), and the suppliers of substitute values (R113). -/

namespace Sys2Proof.Machine

set_option Elab.async false

/-! ## The table of one sample and of one arrival -/

theorem takeFrame_table (m : Monitor) (slots : Slots) :
    (m.config.kind = .stale → takeFrame m slots = takeArrival m.config m.run) ∧
    (m.config.kind = .above ∨ m.config.kind = .below →
      (∀ x, slots[m.config.slot] = some x → takeFrame m slots = takeSample m.config m.run x.value) ∧
      (slots[m.config.slot] = none → takeFrame m slots = ⟨m.run, none, none⟩)) := by
  refine ⟨fun h => by simp [takeFrame, h], ?_⟩
  rintro (h | h) <;> exact ⟨fun x hx => by rw [takeFrame, h, hx], fun hx => by rw [takeFrame, h, hx]; rfl⟩

/-- Settles O29: each entry of the table is one case of the definitions, by the state and the judgement. -/
theorem framesMoveTheirMonitors : Obligations.FramesMoveTheirMonitors := by
  refine ⟨takeFrame_table, ?_, ?_⟩
  · intro c r v r'
    refine ⟨fun hs hj hd => ?_, fun hs hj hd => ?_, fun hs hj => ?_, fun hs hj => ?_, fun hs hj => ?_, fun hs hj => ?_,
      fun hs hj hd => ?_, fun hs hj hd => ?_, fun hs hj => ?_, fun hs hj => ?_, fun hs => ?_⟩
    · simp [takeSample, hs, hj, offend, hd, r']
    · simp [takeSample, hs, hj, offend, r']
      exact fun e => absurd e hd
    · cases hk : judge c v <;> simp_all [takeSample, quietly, r']
    · simp [takeSample, hs, hj, quietly, r']
    · cases hk : judge c v <;> simp_all [takeSample, quietly, r']
    · cases hk : judge c v <;> simp_all [takeSample, quietly, r']
    · simp [takeSample, hs, hj, recover, hd, clear, sampleDetail, decayLength, r']
    · simp [takeSample, hs, hj, recover, quietly, r']
      exact fun e => absurd e hd
    · simp [takeSample, hs, hj, quietly, r']
    · cases hk : judge c v <;> simp_all [takeSample, quietly, r']
    · simp [takeSample, hs, quietly, r']
  · intro c r heard
    refine ⟨fun hs => ?_, fun hs => ?_, fun hs hd => ?_, fun hs hd => ?_, fun hs => ?_⟩
    · rcases hs with hs | hs <;> simp [takeArrival, hs, quietly, heard]
    · simp [takeArrival, hs, quietly, heard]
    · simp [takeArrival, hs, recover, hd, clear, sampleDetail, decayLength, heard]
    · simp [takeArrival, hs, recover, quietly, heard]
      exact fun e => absurd e hd
    · simp [takeArrival, hs, quietly]

/-! ## The supplier of a slot -/

/-- In an ascending list, the first element with a property is the least one. -/
theorem find?_eq_some_iff_of_ascending {p : MonitorId → Bool} {l : List MonitorId} (hl : l.Pairwise (· < ·)) {m : MonitorId} :
    l.find? p = some m ↔ m ∈ l ∧ p m = true ∧ ∀ n ∈ l, p n = true → m ≤ n := by
  induction l with
  | nil => simp
  | cons x rest ih =>
    obtain ⟨hhead, htail⟩ := List.pairwise_cons.1 hl
    rw [List.find?_cons]
    cases hx : p x with
    | true =>
      simp only [Option.some.injEq, List.mem_cons]
      constructor
      · rintro rfl
        exact ⟨.inl rfl, hx, fun n hn _ => hn.elim (fun e => e ▸ le_refl _) fun hn => (hhead n hn).le⟩
      · rintro ⟨hm | hm, -, hleast⟩
        · exact hm.symm
        · exact absurd (hleast x (.inl rfl) hx) (hhead m hm).not_ge
    | false =>
      simp only [ih htail, List.mem_cons]
      constructor
      · rintro ⟨hm, hp, hleast⟩
        exact ⟨.inr hm, hp, fun n hn hpn => hn.elim (fun e => by simp [e, hx] at hpn) fun hn => hleast n hn hpn⟩
      · rintro ⟨hm, hp, hleast⟩
        exact ⟨hm.resolve_left fun e => by simp [e, hx] at hp, hp, fun n hn => hleast n (.inr hn)⟩

theorem isEngaged_iff (st : MonitorState) :
    isEngaged st = true ↔ st = .tripped ∨ st = .recovering ∨ st = .latched := by
  cases st <;> simp [isEngaged]

/-- Monitor `m` is engaged, of class `c`, and substitutes in slot `k`. -/
def State.Substitutes (s : State) (c : ClassId) (k : Fin 4) (m : MonitorId) : Prop :=
  (s.monitor m).config.cls = c ∧ (s.monitor m).config.consequence = .substitute ∧ (s.monitor m).config.slot = k ∧
    ((s.monitor m).run.state = .tripped ∨ (s.monitor m).run.state = .recovering ∨ (s.monitor m).run.state = .latched)

theorem State.substitutes_iff (s : State) (c : ClassId) (k : Fin 4) (m : MonitorId) :
    s.Substitutes c k m ↔
      ((s.engagedEntry c m).any fun e => decide (e.consequence = .substitute) && decide (e.slot = k)) = true := by
  rw [State.Substitutes, ← isEngaged_iff, State.engagedEntry]
  split
  · rename_i h
    simp [h]
  · rename_i h
    simp only [Option.any_none, Bool.false_eq_true, iff_false]
    exact fun hall => h ⟨hall.left, hall.right.right.right⟩

/-- Where the engaged lists are derived, the supplier of a slot is the lowest-numbered monitor that substitutes in it. -/
theorem supplier_eq_some_iff {s : State} (h : DispositionsDerived s) (c : ClassId) (k : Fin 4) (m : MonitorId) :
    supplier (s.classState c).engaged k = some m ↔ s.Substitutes c k m ∧ ∀ n, s.Substitutes c k n → m ≤ n := by
  have hfind : supplier (s.classState c).engaged k = (List.finRange 48).find? fun n =>
      (s.engagedEntry c n).any fun e => decide (e.consequence = .substitute) && decide (e.slot = k) := by
    rw [supplier, (h c).left, List.find?_filterMap]
    generalize hfound : (List.finRange 48).find? _ = found
    cases found with
    | none => rfl
    | some n =>
      have hany := List.find?_some hfound
      cases hentry : s.engagedEntry c n with
      | none => simp [hentry] at hany
      | some e => simp [hentry, State.engagedEntry_monitor hentry]
  rw [hfind, find?_eq_some_iff_of_ascending (List.sortedLT_finRange 48).pairwise]
  simp only [List.mem_finRange, true_and, forall_const, ← State.substitutes_iff]

/-- Settles O32, from the supplier of the slot. -/
theorem lowestNumberedMonitorSupplies : Obligations.LowestNumberedMonitorSupplies := by
  intro s c k value h names
  have hrewrites : (k, value) ∈ s.rewrites c ↔
      ∃ m, supplier (s.classState c).engaged k = some m ∧ (s.monitor m).config.substituteValue = value := by
    simp only [State.rewrites, List.mem_filterMap, List.mem_finRange, true_and, Option.map_eq_some_iff, Prod.mk.injEq]
    constructor
    · rintro ⟨_, m, hm, rfl, hv⟩
      exact ⟨m, hm, hv⟩
    · rintro ⟨m, hm, hv⟩
      exact ⟨k, m, hm, rfl, hv⟩
  rw [hrewrites]
  refine exists_congr fun m => ?_
  rw [supplier_eq_some_iff h]
  exact ⟨fun ⟨⟨hm, hleast⟩, hv⟩ => ⟨hm, hv, hleast⟩, fun ⟨hm, hv, hleast⟩ => ⟨⟨hm, hleast⟩, hv⟩⟩

end Sys2Proof.Machine
end

section
/-! PROOFS. The banks (R35, R39, R50, R66, R123, R127), and the walk under the active bank (R55, R65). -/

namespace Sys2Proof.Machine

set_option Elab.async false

/-! ## The banks -/

/-- Every entry of the bank is legal, and its step budget is 1..64. -/
def Bank.Legal (b : Bank) : Prop :=
  (∀ e ∈ b.entries.toList, legalEntry e = true) ∧ 1 ≤ b.header.budget ∧ b.header.budget ≤ 64

/-- The part of `BanksSound` that speaks of the banks and their verify state. -/
structure State.BanksReady (s : State) : Prop where
  legal : ∀ k, (s.bank k).Legal
  active : examine (s.bank s.engine.activeBank) = .passed
  shadow : s.tables.verify = .passed → examine (s.bank s.shadow) = .passed
  waiting : ∀ m, s.tables.state = .switchPending m → s.tables.verify = .passed

/-- The part of `BanksSound` that speaks of the switch. -/
structure State.SwitchFits (s : State) : Prop where
  posted : s.engine.switchPosted = true ∨ s.engine.switchPending = true → ∃ m, s.tables.state = .switchPending m
  once : ¬ (s.engine.switchPosted = true ∧ s.engine.switchPending = true)
  first : s.engine.takeMayPrecede = true → s.engine.switchPosted = true ∧ s.engine.phase = .idle
  pending : s.engine.switchPending = true → ∃ d w, s.engine.phase = .walking d w

theorem banksSound_iff (s : State) : BanksSound s ↔ s.BanksReady ∧ s.SwitchFits :=
  ⟨fun ⟨h1, h2, h3, h4, h5, h6, h7, h8⟩ => ⟨⟨h1, h2, h3, h4⟩, ⟨h5, h6, h7, h8⟩⟩,
    fun ⟨⟨h1, h2, h3, h4⟩, ⟨h5, h6, h7, h8⟩⟩ => ⟨h1, h2, h3, h4, h5, h6, h7, h8⟩⟩

theorem State.bank_congr {s t : State} (h : t.tables.banks = s.tables.banks) (k : BankId) : t.bank k = s.bank k := by
  cases k <;> simp [State.bank, h]

theorem State.shadow_congr {s t : State} (h : t.engine.activeBank = s.engine.activeBank) : t.shadow = s.shadow := by
  simp [State.shadow, h]

/-- The same banks in the same roles. -/
theorem State.BanksReady.congr {s t : State} (h : s.BanksReady) (hbanks : t.tables.banks = s.tables.banks)
    (hactive : t.engine.activeBank = s.engine.activeBank)
    (hshadow : t.tables.verify = .passed → examine (s.bank s.shadow) = .passed)
    (hwaiting : ∀ m, t.tables.state = .switchPending m → t.tables.verify = .passed) : t.BanksReady where
  legal k := (State.bank_congr hbanks k).symm ▸ h.legal k
  active := by
    rw [State.bank_congr hbanks, hactive]
    exact h.active
  shadow hv := by
    rw [State.bank_congr hbanks, State.shadow_congr hactive]
    exact hshadow hv
  waiting := hwaiting

/-- No switch waits. -/
theorem State.SwitchFits.ofNone {s : State} (hposted : s.engine.switchPosted = false)
    (hpending : s.engine.switchPending = false) (hfirst : s.engine.takeMayPrecede = false) : s.SwitchFits where
  posted h := by simp [hposted, hpending] at h
  once h := by simp [hposted] at h
  first h := by simp [hfirst] at h
  pending h := by simp [hpending] at h

/-- Outside SWITCH_PENDING no switch waits. -/
theorem State.SwitchFits.none {s : State} (h : s.SwitchFits) (hstate : ∀ m, s.tables.state ≠ .switchPending m) :
    s.engine.switchPosted = false ∧ s.engine.switchPending = false ∧ s.engine.takeMayPrecede = false := by
  have hno : ¬ (s.engine.switchPosted = true ∨ s.engine.switchPending = true) := fun hw => by
    obtain ⟨m, hm⟩ := h.posted hw
    exact hstate m hm
  rw [not_or] at hno
  exact ⟨Bool.eq_false_of_not_eq_true hno.1, Bool.eq_false_of_not_eq_true hno.2,
    Bool.eq_false_of_not_eq_true fun hf => hno.1 (h.first hf).1⟩

theorem BanksSound.congr {s t : State} (h : BanksSound s) (htables : t.tables = s.tables) (hengine : t.engine = s.engine) :
    BanksSound t := by
  obtain ⟨hready, hposted, honce, hfirst, hpending⟩ := (banksSound_iff s).1 h
  rw [← htables, ← hengine] at hposted
  rw [← hengine] at honce hfirst hpending
  refine (banksSound_iff t).2 ⟨hready.congr (by rw [htables]) (by rw [hengine]) ?_ ?_, hposted, honce, hfirst, hpending⟩
  · rw [htables]
    exact hready.shadow
  · rw [htables]
    exact hready.waiting

/-! ## The switch (R66, R127..R130) -/

/-- The switch of a table service that waits for it leaves the old shadow bank, which has passed, active. -/
theorem State.BanksReady.switchBanks {s : State} (h : s.BanksReady) {m : CommitMode}
    (hm : s.tables.state = .switchPending m) : s.switchBanks.BanksReady := by
  have hbanks : s.switchBanks.tables.banks = s.tables.banks := s.switchBanks_tables_banks
  have hactive : s.switchBanks.engine.activeBank = s.shadow := by
    simp only [State.switchBanks]
    split <;> rfl
  have hshadow : s.switchBanks.shadow = s.engine.activeBank := by
    rw [State.shadow, hactive, State.shadow, BankId.other_other]
  have hstate : ∀ m, s.switchBanks.tables.state ≠ .switchPending m := by
    intro m'
    cases m <;> simp [State.switchBanks, hm, State.completeCommit, State.postReport]
  refine ⟨fun k => ?_, ?_, fun _ => ?_, fun m' hm' => absurd hm' (hstate m')⟩
  · rw [State.bank_congr hbanks]
    exact h.legal k
  · rw [State.bank_congr hbanks, hactive]
    exact h.shadow (h.waiting m hm)
  · rw [State.bank_congr hbanks, hshadow]
    exact h.active

/-- The switch that waits at a walk's end is made, and none waits any more (R65). -/
theorem State.BanksReady.makeAwaitedSwitch {s : State} (hready : s.BanksReady)
    (hposted : s.engine.switchPosted = true ∨ s.engine.switchPending = true → ∃ m, s.tables.state = .switchPending m)
    (hfirst : s.engine.takeMayPrecede = true → s.engine.switchPosted = true) : BanksSound s.makeAwaitedSwitch := by
  rw [banksSound_iff]
  obtain ⟨hp, hq, e⟩ | ⟨hwaits, e, hengine⟩ := s.makeAwaitedSwitch_cases
  · rw [e]
    exact ⟨hready, .ofNone hp hq (Bool.eq_false_of_not_eq_true fun hf => by simp [hp] at hfirst; simp [hfirst] at hf)⟩
  · obtain ⟨m, hm⟩ := hposted hwaits
    have hrequest : s.takeRequest.BanksReady := hready.congr rfl rfl hready.shadow hready.waiting
    exact ⟨e ▸ hrequest.switchBanks hm, .ofNone (by rw [hengine]) (by rw [hengine]) (by rw [hengine])⟩

theorem State.BanksReady.completeWalk {s : State} (hready : s.BanksReady)
    (hposted : s.engine.switchPosted = true ∨ s.engine.switchPending = true → ∃ m, s.tables.state = .switchPending m)
    (hfirst : s.engine.takeMayPrecede = true → s.engine.switchPosted = true) (d : Descriptor) (w : Walk) :
    BanksSound (s.completeWalk d w) := by
  refine State.BanksReady.makeAwaitedSwitch (hready.congr ?_ ?_ ?_ ?_) ?_ ?_
  · simp
  · simp
  · simpa using hready.shadow
  · simpa using hready.waiting
  · simpa using hposted
  · simpa using hfirst

/-! ## Writes to the shadow bank -/

theorem legalEntry_powerOn : legalEntry .powerOn = true := by decide

theorem Bank.legal_powerOn : Bank.powerOn.Legal := by
  refine ⟨fun e he => ?_, by decide, by decide⟩
  have hrep : e ∈ (Vector.replicate 256 Entry.powerOn).toList := he
  simp only [Vector.toList_replicate, List.mem_replicate] at hrep
  rw [hrep.2]
  exact legalEntry_powerOn

theorem writeEntriesFrom_legal {es : List Entry} (hes : ∀ e ∈ es, legalEntry e = true) :
    ∀ (i : Nat) {v : Vector Entry 256}, (∀ e ∈ v.toList, legalEntry e = true) →
      ∀ e ∈ (writeEntriesFrom i es v).toList, legalEntry e = true := by
  induction es with
  | nil => exact fun _ _ hv => hv
  | cons x rest ih =>
    intro i v hv
    refine ih (fun e he => hes e (List.mem_cons_of_mem _ he)) (i + 1) fun e he => ?_
    rw [Vector.toList_setIfInBounds] at he
    obtain he | rfl := List.mem_or_eq_of_mem_set he
    · exact hv e he
    · exact hes e List.mem_cons_self

theorem copiedSoFar_legal {source old : Bank} (hsource : source.Legal) (hold : old.Legal) (n : Nat) :
    (copiedSoFar source old n).Legal := by
  refine ⟨fun e he => ?_, hold.2⟩
  rw [Vector.mem_toList_iff, Vector.mem_iff_getElem] at he
  obtain ⟨i, hi, rfl⟩ := he
  simp only [copiedSoFar, Vector.getElem_ofFn]
  split
  · exact hsource.1 _ (by simp)
  · exact hold.1 _ (by simp)

/-- A shadow bank may be replaced by a legal one where its verify state is not PASSED afterwards, or the new one meets the
reference conditions. -/
theorem State.BanksReady.replaceShadow {s t : State} (h : s.BanksReady) {b : Bank} (hlegal : b.Legal)
    (hbanks : t.tables.banks = (s.setBank s.shadow b).tables.banks) (hactive : t.engine.activeBank = s.engine.activeBank)
    (hverify : t.tables.verify = .passed → examine b = .passed)
    (hstate : ∀ m, t.tables.state ≠ .switchPending m) : t.BanksReady := by
  have hbank := State.bank_congr hbanks
  refine ⟨fun k => ?_, ?_, fun hv => ?_, fun m hm => absurd hm (hstate m)⟩
  · rw [hbank]
    by_cases hk : k = s.shadow
    · rw [hk, State.bank_setBank_same]
      exact hlegal
    · rw [State.bank_setBank_of_ne s b hk]
      exact h.legal k
  · rw [hbank, hactive, State.bank_setBank_of_ne s b s.shadow_ne_active.symm]
    exact h.active
  · rw [hbank, State.shadow_congr hactive, State.bank_setBank_same]
    exact hverify hv

/-- The commands that write the shadow bank of an IDLE table service leave its verify state NONE (R120, R121). -/
theorem BanksSound.writeShadow {s : State} (h : BanksSound s) (hidle : s.tables.state = .idle) {b : Bank}
    (hlegal : b.Legal) : BanksSound (s.writeShadow b) := by
  obtain ⟨hready, hswitch⟩ := (banksSound_iff s).1 h
  have hstate : ∀ m, s.tables.state ≠ .switchPending m := fun m => by simp [hidle]
  obtain ⟨hposted, hpending, hfirst⟩ := hswitch.none hstate
  refine (banksSound_iff _).2 ⟨hready.replaceShadow hlegal rfl ?_ nofun ?_, .ofNone ?_ ?_ ?_⟩ <;>
    simp [State.writeShadow, hidle, hposted, hpending, hfirst]

theorem Effect.keeps_banksSound {s t : State} {c : Instr} (h : Effect s c t) (hs : BanksSound s) : BanksSound t := by
  have hlegal := ((banksSound_iff s).1 hs).1.legal s.shadow
  cases h with
  | header hidle hlow hhigh => exact hs.writeShadow hidle ⟨hlegal.1, hlow, hhigh⟩
  | entries hidle hes => exact hs.writeShadow hidle ⟨writeEntriesFrom_legal hes _ hlegal.1, hlegal.2⟩
  | stop => exact hs.congr (State.makeTransition_tables _ _ _) (State.makeTransition_engine _ _ _)
  | release => exact hs.congr (State.makeTransition_tables _ _ _) (State.makeTransition_engine _ _ _)
  | override => exact hs.congr (State.recompute_tables _ _ _) (State.recompute_engine _ _ _)
  | _ => exact hs.congr rfl rfl

theorem Acceptance.keeps_banksSound {s t : State} {c : Instr} (h : Acceptance s c t) (hs : BanksSound s) :
    BanksSound t := by
  obtain ⟨hready, hswitch⟩ := (banksSound_iff s).1 hs
  rw [banksSound_iff]
  cases h with
  | verify hidle =>
    obtain ⟨hposted, hpending, hfirst⟩ := hswitch.none fun m => by simp [hidle]
    exact ⟨hready.congr rfl rfl nofun nofun, .ofNone hposted hpending hfirst⟩
  | commit mode hidle hpassed =>
    obtain ⟨-, hpending, -⟩ := hswitch.none fun m => by simp [hidle]
    refine ⟨hready.congr rfl rfl hready.shadow fun _ _ => hpassed, fun _ => ⟨mode, rfl⟩, ?_, ?_, ?_⟩
    · simp [hpending]
    · intro hmeets
      simp only [State.takeMeetsRequest, decide_eq_true_eq] at hmeets
      exact ⟨rfl, hmeets.1⟩
    · simp [hpending]

theorem Executed.keeps_banksSound {c : Instr} {s t : State} (h : Executed c s t) (hs : BanksSound s) : BanksSound t := by
  have hqueue : BanksSound s.dequeue := hs.congr rfl rfl
  obtain rfl | ⟨r, rest, -, -, ⟨t, u, results, heffect, -, rfl⟩ | ⟨t, haccept, rfl⟩⟩ := h
  · exact hs
  · exact (heffect.keeps_banksSound hqueue).congr (by simp [State.answered]) (by simp [State.answered])
  · exact (haccept.keeps_banksSound hqueue).congr rfl rfl

theorem examine_powerOn : examine .powerOn = .passed := by
  simp [examine, Bank.powerOn, Header.powerOn, examineEntries]

/-- A power-on reset leaves two banks of an empty program. -/
theorem State.BanksReady.powerOn {t : State} (htables : t.tables = .powerOn) : t.BanksReady := by
  have hbank : ∀ k, t.bank k = .powerOn := fun k => by cases k <;> simp [State.bank, htables, TableService.powerOn]
  refine ⟨fun k => ?_, ?_, fun _ => ?_, ?_⟩
  · rw [hbank]
    exact Bank.legal_powerOn
  · rw [hbank]
    exact examine_powerOn
  · rw [hbank]
    exact examine_powerOn
  · simp [htables, TableService.powerOn]

/-- A RESTART keeps the banks but for the entries of a copy that it cuts, and a shadow bank stays PASSED where a commit
that had not been made is dropped (R131). -/
theorem State.BanksReady.restartTables {s t : State} (h : s.BanksReady)
    (htables : t.tables = s.restartTables.tables) (hactive : t.engine.activeBank = s.engine.activeBank) :
    t.BanksReady := by
  cases hstate : s.tables.state with
  | copying =>
    have hbanks : t.tables.banks = (s.setBank s.shadow
        (copiedSoFar (s.bank s.engine.activeBank) (s.bank s.shadow) s.copiedEntries)).tables.banks := by
      rw [htables, State.restartTables, hstate]
    refine h.replaceShadow (copiedSoFar_legal (h.legal _) (h.legal _) _) hbanks hactive ?_ ?_ <;>
      simp [htables, State.restartTables, hstate]
  | _ =>
    have hwaiting := h.waiting
    have hshadow := h.shadow
    refine h.congr (by simp [htables, State.restartTables, hstate]) hactive ?_ ?_ <;>
      simp_all [State.restartTables]

theorem exec_keeps_banksSound {c : Instr} {s t : State} (hs : BanksSound s) (h : exec c s = .next t) : BanksSound t := by
  by_cases hrequest : c ∈ requestCommands
  · obtain ⟨t', e, hexecuted⟩ := exec_executed hrequest s
    cases h.symm.trans e
    exact hexecuted.keeps_banksSound hs
  obtain ⟨hready, hswitch⟩ := (banksSound_iff s).1 hs
  cases c with
  | powerOnReset =>
    cases h
    exact (banksSound_iff _).2 ⟨.powerOn rfl, .ofNone rfl rfl rfl⟩
  | restart =>
    obtain ⟨r, rest, -, -, -, -, rfl⟩ | hrefused := execRestart_cases h
    · rw [banksSound_iff]
      refine ⟨hready.restartTables ?_ ?_, .ofNone ?_ ?_ ?_⟩ <;> simp [State.restartAll, Engine.restart, Engine.powerOn]
    · exact hrefused.keeps_banksSound hs
  | frameTake =>
    obtain e | ⟨p, d, rest, hidle, hpending, hposted, -, ⟨-, e⟩ | ⟨-, e⟩⟩ := execFrameTake_cases s
    · cases h.symm.trans e
      exact hs
    · cases h.symm.trans e
      refine (banksSound_iff _).2 ⟨hready.congr rfl rfl hready.shadow hready.waiting, hswitch.posted, hswitch.once, nofun, ?_⟩
      exact fun _ => ⟨_, _, rfl⟩
    · cases h.symm.trans e
      have htake : (s.takeHead p rest).BanksReady := hready.congr rfl rfl hready.shadow hready.waiting
      exact htake.completeWalk hswitch.posted nofun d _
  | walkCompletion =>
    revert h
    simp only [exec, execWalkCompletion]
    split <;> rintro ⟨⟩
    · exact hready.completeWalk hswitch.posted (fun hf => (hswitch.first hf).1) _ _
    · exact hs
  | switchRequest =>
    revert h
    simp only [exec, execSwitchRequest]
    split
    · rename_i hposted
      obtain ⟨m, hm⟩ := hswitch.posted (.inl hposted)
      have hrequest : s.takeRequest.BanksReady := hready.congr rfl rfl hready.shadow hready.waiting
      split <;> rintro ⟨⟩
      · rename_i d w hwalking
        refine (banksSound_iff _).2 ⟨hrequest.congr rfl rfl hrequest.shadow hrequest.waiting, fun _ => ⟨m, hm⟩, ?_, nofun, ?_⟩
        · simp
        · exact fun _ => ⟨d, w, hwalking⟩
      · refine (banksSound_iff _).2 ⟨hrequest.switchBanks hm, .ofNone ?_ ?_ ?_⟩
        · simp
        · simp only [State.switchBanks]
          split <;> rfl
        · simp
    · rintro ⟨⟩
      exact hs
  | monitorTakeFrame =>
    revert h
    simp only [exec, execMonitorTakeFrame]
    split <;> rintro ⟨⟩
    · rename_i d _ _ hholding
      have htables : ((s.monitorsTake d).decideFrame d).tables = s.tables := by simp
      have hengine : ((s.monitorsTake d).decideFrame d).engine = s.engine := by simp
      have hsame : BanksSound ((s.monitorsTake d).decideFrame d) := hs.congr htables hengine
      obtain ⟨hready, hposted, honce, hfirst, hpending⟩ := (banksSound_iff _).1 hsame
      refine (banksSound_iff _).2 ⟨hready.congr rfl rfl hready.shadow hready.waiting, hposted, honce,
        fun hf => ⟨(hfirst hf).1, rfl⟩, fun hp => ?_⟩
      obtain ⟨d', w, hwalking⟩ := hpending hp
      rw [hengine, hholding] at hwalking
      cases hwalking
    · exact hs
  | verifyExaminationComplete =>
    revert h
    simp only [exec, execVerifyExaminationComplete]
    split <;> rintro ⟨⟩
    · rename_i hverifying
      obtain ⟨hposted, hpending, hfirst⟩ := hswitch.none fun m => by simp [hverifying]
      exact (banksSound_iff _).2 ⟨hready.congr rfl rfl (fun hv => hv) nofun, .ofNone hposted hpending hfirst⟩
    · exact hs
  | copyComplete =>
    revert h
    simp only [exec, execCopyComplete]
    split <;> rintro ⟨⟩
    · rename_i hcopying
      obtain ⟨hposted, hpending, hfirst⟩ := hswitch.none fun m => by simp [hcopying]
      refine (banksSound_iff _).2
        ⟨hready.replaceShadow (hready.legal _) rfl ?_ (fun _ => hready.active) nofun, .ofNone ?_ ?_ ?_⟩ <;>
        simp [hposted, hpending, hfirst]
    · exact hs
  | resultReport =>
    revert h
    simp only [exec, execResultReport]
    split <;> rintro ⟨⟩
    · have hreported : ∀ (u : State) (q : PendingResult) (r : Report), (u.respondReported q r).tables = u.tables ∧
          (u.respondReported q r).engine = u.engine := by
        intro u q r
        simp only [State.respondReported, State.holdResponse]
        (repeat' split) <;> exact ⟨rfl, rfl⟩
      refine BanksSound.congr ?_ (hreported _ _ _).1 (hreported _ _ _).2
      exact (banksSound_iff _).2 ⟨hready.congr rfl rfl hready.shadow hready.waiting, hswitch.posted, hswitch.once,
        hswitch.first, hswitch.pending⟩
    · exact hs
  | _ => first
    | exact absurd (by decide) hrequest
    | exact hs.congr (exec_within h .tables rfl) (exec_within h .engine rfl)

/-- Settles O9: the shadow bank alone is written, and it becomes active only when it has passed. -/
theorem banksStaySound : Obligations.BanksStaySound :=
  step_keeps_alone (fun _ _ hs => hs.congr rfl rfl) fun _ _ _ => exec_keeps_banksSound

/-! ## The walk under the active bank -/

theorem WalkUnderActive.ofNotWalking {t : State} (h : ∀ d w, t.engine.phase ≠ .walking d w) : WalkUnderActive t :=
  fun d w hw => absurd hw (h d w)

/-- The same frame in hand, the same active bank with the same contents. -/
theorem WalkUnderActive.congr {s t : State} (h : WalkUnderActive s) (hphase : t.engine.phase = s.engine.phase)
    (hactive : t.engine.activeBank = s.engine.activeBank)
    (hbank : t.bank s.engine.activeBank = s.bank s.engine.activeBank) : WalkUnderActive t := by
  intro d w hw
  rw [hactive, hbank]
  exact h d w (hphase.symm.trans hw)

theorem WalkUnderActive.of_engine {s t : State} (h : WalkUnderActive s) (hengine : t.engine = s.engine)
    (hbanks : t.tables.banks = s.tables.banks) : WalkUnderActive t :=
  h.congr (by rw [hengine]) (by rw [hengine]) (State.bank_congr hbanks _)

/-- A write of the shadow bank leaves the active one. -/
theorem WalkUnderActive.of_shadow {s t : State} (h : WalkUnderActive s) (hengine : t.engine = s.engine) {b : Bank}
    (hbanks : t.tables.banks = (s.setBank s.shadow b).tables.banks) : WalkUnderActive t := by
  refine h.congr (by rw [hengine]) (by rw [hengine]) ?_
  rw [State.bank_congr hbanks, State.bank_setBank_of_ne s b s.shadow_ne_active.symm]

theorem Effect.keeps_walkUnderActive {s t : State} {c : Instr} (h : Effect s c t) (hs : WalkUnderActive s) :
    WalkUnderActive t := by
  cases h with
  | header => exact hs.of_shadow (State.setBank_engine _ _ _) rfl
  | entries => exact hs.of_shadow (State.setBank_engine _ _ _) rfl
  | stop => exact hs.of_engine (State.makeTransition_engine _ _ _) (by rw [State.makeTransition_tables])
  | release => exact hs.of_engine (State.makeTransition_engine _ _ _) (by rw [State.makeTransition_tables])
  | override => exact hs.of_engine (State.recompute_engine _ _ _) (by rw [State.recompute_tables]; rfl)
  | _ => exact hs.of_engine rfl rfl

theorem Executed.keeps_walkUnderActive {c : Instr} {s t : State} (h : Executed c s t) (hs : WalkUnderActive s) :
    WalkUnderActive t := by
  have hqueue : WalkUnderActive s.dequeue := hs.of_engine rfl rfl
  obtain rfl | ⟨r, rest, -, -, ⟨t, u, results, heffect, -, rfl⟩ | ⟨t, haccept, rfl⟩⟩ := h
  · exact hs
  · exact (heffect.keeps_walkUnderActive hqueue).of_engine (by simp [State.answered]) (by simp [State.answered])
  · cases haccept <;> exact hqueue.congr rfl rfl rfl

theorem State.completeWalk_not_walking (s : State) (d : Descriptor) (w : Walk) (d' : Descriptor) (w' : Walk) :
    (s.completeWalk d w).engine.phase ≠ .walking d' w' := by
  rw [(s.completeWalk_engine d w).1]
  nofun

theorem exec_keeps_walkUnderActive {c : Instr} {s t : State} (hqueues : QueuesSound s) (hs : WalkUnderActive s)
    (h : exec c s = .next t) : WalkUnderActive t := by
  by_cases hrequest : c ∈ requestCommands
  · obtain ⟨t', e, hexecuted⟩ := exec_executed hrequest s
    cases h.symm.trans e
    exact hexecuted.keeps_walkUnderActive hs
  cases c with
  | powerOnReset =>
    cases h
    exact .ofNotWalking nofun
  | restart =>
    obtain ⟨r, rest, -, -, -, -, rfl⟩ | hrefused := execRestart_cases h
    · refine .ofNotWalking fun d w => ?_
      simp [State.restartAll, Engine.restart, Engine.powerOn]
    · exact hrefused.keeps_walkUnderActive hs
  | frameTake =>
    obtain e | ⟨p, d, rest, -, -, -, hready, ⟨hbelow, e⟩ | ⟨-, e⟩⟩ := execFrameTake_cases s
    · cases h.symm.trans e
      exact hs
    · cases h.symm.trans e
      rintro d' w' ⟨⟩
      have hport : d.ingress = p := hqueues.ready p d (by rw [hready]; exact List.mem_cons_self)
      refine ⟨rfl, rfl, ?_, hbelow⟩
      rw [hport]
      rfl
    · cases h.symm.trans e
      exact .ofNotWalking (State.completeWalk_not_walking _ _ _)
  | walkCompletion =>
    revert h
    simp only [exec, execWalkCompletion]
    split <;> rintro ⟨⟩
    · exact .ofNotWalking (State.completeWalk_not_walking _ _ _)
    · exact hs
  | switchRequest =>
    revert h
    simp only [exec, execSwitchRequest]
    split
    · split <;> rintro ⟨⟩
      · exact hs.congr rfl rfl rfl
      · rename_i hnot
        exact .ofNotWalking fun d w hw => hnot d w (by simpa using hw)
    · rintro ⟨⟩
      exact hs
  | monitorTakeFrame =>
    revert h
    simp only [exec, execMonitorTakeFrame]
    split <;> rintro ⟨⟩
    · exact .ofNotWalking nofun
    · exact hs
  | verifyExaminationComplete =>
    revert h
    simp only [exec, execVerifyExaminationComplete]
    split <;> rintro ⟨⟩
    · exact hs.of_engine rfl rfl
    · exact hs
  | copyComplete =>
    revert h
    simp only [exec, execCopyComplete]
    split <;> rintro ⟨⟩
    · exact hs.of_shadow (by simp) rfl
    · exact hs
  | resultReport =>
    revert h
    simp only [exec, execResultReport, State.respondReported, State.holdResponse]
    (repeat' split) <;> rintro ⟨⟩ <;> exact hs.of_engine rfl rfl
  | _ => first
    | exact absurd (by decide) hrequest
    | exact hs.of_engine (exec_within h .engine rfl) (congrArg TableService.banks (exec_within h .tables rfl))

/-- Settles O10: a walk begins under the active bank, which neither a write nor a switch changes before its end. -/
theorem walksStayUnderTheActiveBank : Obligations.WalksStayUnderTheActiveBank :=
  step_keeps (fun _ _ hq => ⟨hq.ready, hq.requests, hq.acks, hq.forward, hq.flushed⟩)
    (fun _ _ hs => hs.of_engine rfl rfl) fun _ _ _ => exec_keeps_walkUnderActive

end Sys2Proof.Machine
end

section
/-! PROOFS. Where the stored frames go (R17, R18): every command passes frames from holder to holder, returns the blocks
of some, starts one or gives one a block. -/

namespace Sys2Proof.Machine

set_option Elab.async false

/-! ## The holders of frames -/

/-- The items of the part that hold frames, with the free list and the share counts. -/
structure Holders where
  receivers : PerPort Receiver
  transmitters : PerPort Transmitter
  ready : PerPort (List Descriptor)
  forward : PerPort (List Screened)
  phase : Phase
  inbox : PerPort (List Descriptor)
  requests : List Request
  acks : PerPort (List Descriptor)
  free : List BlockId
  share : PerPort Nat

def State.holders (s : State) : Holders :=
  { receivers := s.receivers, transmitters := s.transmitters, ready := s.store.ready, forward := s.store.forward
    phase := s.engine.phase, inbox := s.agent.inbox, requests := s.agent.requests, acks := s.notice.inbox
    free := s.store.free, share := s.store.share }

/-- The frames that the holders hold. -/
def Holders.held (h : Holders) : List Descriptor :=
  receivingFrames .a h.receivers.a ++ receivingFrames .b h.receivers.b ++ h.ready.a ++ h.ready.b ++
  engineFrames h.phase ++ h.forward.a.map (·.desc) ++ h.forward.b.map (·.desc) ++
  sendingFrames h.transmitters.a ++ sendingFrames h.transmitters.b ++ h.inbox.a ++ h.inbox.b ++
  h.requests.map (·.frame) ++ h.acks.a ++ h.acks.b

/-- The frames held on account of port `p`. -/
def Holders.heldAt (h : Holders) (p : Port) : List Descriptor :=
  receivingFrames p (h.receivers.get p) ++ h.ready.get p ++ (h.forward.get p).map (·.desc) ++
  sendingFrames (h.transmitters.get p) ++ h.inbox.get p ++ h.acks.get p

theorem Holders.count_held (h : Holders) (p : Port) (d : Descriptor) :
    h.held.count d = (h.heldAt p).count d + (h.heldAt (opposite p)).count d +
      ((engineFrames h.phase).count d + (h.requests.map (·.frame)).count d) := by
  cases p <;> simp only [Holders.held, Holders.heldAt, opposite, List.count_append, PerPort.get_a, PerPort.get_b] <;> omega

theorem State.heldFrames_eq (s : State) : s.heldFrames = s.holders.held := rfl

/-- A change that leaves the holders alone. -/
theorem Within.holders {l : List Part} {s t : State} (h : Within l s t)
    (hl : ∀ x ∈ [Part.receivers, .transmitters, .ready, .forward, .engine, .inbox, .requests, .noticeInbox, .blocks],
      l.contains x = false) : t.holders = s.holders := by
  have hsame : ∀ x ∈ [Part.receivers, .transmitters, .ready, .forward, .engine, .inbox, .requests, .noticeInbox, .blocks],
      x.Same s t := fun x hx => h x (hl x hx)
  simp only [List.forall_mem_cons, Part.Same] at hsame
  obtain ⟨h1, h2, h3, h4, h5, h6, h7, h8, ⟨h9, h10⟩, -⟩ := hsame
  simp only [State.holders, h1, h2, h3, h4, h5, h6, h7, h8, h9, h10]

/-! ## Passing frames on -/

/-- From holders `h` to `h'`: the frames of `inn` have come in, those of `out` have left with their blocks, and those of
`gone` have left and their blocks are back (R19). -/
structure Moves (inn out gone : List Descriptor) (h h' : Holders) : Prop where
  held : ∀ d, inn.count d + h.held.count d = out.count d + gone.count d + h'.held.count d
  free : h'.free.Perm (h.free ++ gone.flatMap (·.blocks))
  share : ∀ p, h'.share.get p = h.share.get p - blocksFrom p gone

theorem Moves.refl (h : Holders) : Moves [] [] [] h h :=
  ⟨fun _ => by simp, by simp, fun _ => by simp⟩

section

variable {inn out gone : List Descriptor} {h h' : Holders}

theorem Moves.trans {inn' out' gone' : List Descriptor} {h'' : Holders} (hm : Moves inn out gone h h')
    (hm' : Moves inn' out' gone' h' h'') : Moves (inn ++ inn') (out ++ out') (gone ++ gone') h h'' where
  held d := by
    have e := hm.held d
    have e' := hm'.held d
    simp only [List.count_append]
    omega
  free := by
    rw [List.flatMap_append, ← List.append_assoc]
    exact hm'.free.trans (hm.free.append_right _)
  share p := by
    rw [hm'.share, hm.share, blocksFrom_append]
    omega

/-- One holder passes what it held, and takes what it now holds. -/
theorem Moves.step (hm : Moves inn out gone h h') {h'' : Holders} {old new : List Descriptor}
    (hheld : ∀ d, new.count d + h'.held.count d = old.count d + h''.held.count d) (hfree : h''.free = h'.free)
    (hshare : h''.share = h'.share) : Moves (inn ++ new) (out ++ old) gone h h'' where
  held d := by
    have e := hm.held d
    have e' := hheld d
    simp only [List.count_append]
    omega
  free := hfree ▸ hm.free
  share p := hshare ▸ hm.share p

/-- One port's holder passes what it held, and takes what it now holds. -/
theorem Moves.stepAt (hm : Moves inn out gone h h') {h'' : Holders} {old new : List Descriptor} (p : Port)
    (hport : ∀ d, new.count d + (h'.heldAt p).count d = old.count d + (h''.heldAt p).count d)
    (hother : h''.heldAt (opposite p) = h'.heldAt (opposite p)) (hphase : h''.phase = h'.phase)
    (hrequests : h''.requests = h'.requests) (hfree : h''.free = h'.free) (hshare : h''.share = h'.share) :
    Moves (inn ++ new) (out ++ old) gone h h'' := by
  refine hm.step (fun d => ?_) hfree hshare
  have e := hport d
  rw [Holders.count_held _ p, Holders.count_held _ p, hother, hphase, hrequests]
  omega

variable (hm : Moves inn out gone h h')

include hm

theorem Moves.setReceiver (p : Port) (r : Receiver) :
    Moves (inn ++ receivingFrames p r) (out ++ receivingFrames p (h'.receivers.get p)) gone h
      { h' with receivers := h'.receivers.set p r } := by
  refine hm.stepAt p (fun d => ?_) ?_ rfl rfl rfl rfl
  · simp only [Holders.heldAt, PerPort.get_set_same, List.count_append]
    omega
  · simp only [Holders.heldAt, PerPort.get_set_of_ne _ _ (opposite_ne p)]

theorem Moves.setTransmitter (p : Port) (x : Transmitter) :
    Moves (inn ++ sendingFrames x) (out ++ sendingFrames (h'.transmitters.get p)) gone h
      { h' with transmitters := h'.transmitters.set p x } := by
  refine hm.stepAt p (fun d => ?_) ?_ rfl rfl rfl rfl
  · simp only [Holders.heldAt, PerPort.get_set_same, List.count_append]
    omega
  · simp only [Holders.heldAt, PerPort.get_set_of_ne _ _ (opposite_ne p)]

theorem Moves.setReady (p : Port) (l : List Descriptor) :
    Moves (inn ++ l) (out ++ h'.ready.get p) gone h { h' with ready := h'.ready.set p l } := by
  refine hm.stepAt p (fun d => ?_) ?_ rfl rfl rfl rfl
  · simp only [Holders.heldAt, PerPort.get_set_same, List.count_append]
    omega
  · simp only [Holders.heldAt, PerPort.get_set_of_ne _ _ (opposite_ne p)]

theorem Moves.setForward (p : Port) (l : List Screened) :
    Moves (inn ++ l.map (·.desc)) (out ++ (h'.forward.get p).map (·.desc)) gone h
      { h' with forward := h'.forward.set p l } := by
  refine hm.stepAt p (fun d => ?_) ?_ rfl rfl rfl rfl
  · simp only [Holders.heldAt, PerPort.get_set_same, List.count_append]
    omega
  · simp only [Holders.heldAt, PerPort.get_set_of_ne _ _ (opposite_ne p)]

theorem Moves.setInbox (p : Port) (l : List Descriptor) :
    Moves (inn ++ l) (out ++ h'.inbox.get p) gone h { h' with inbox := h'.inbox.set p l } := by
  refine hm.stepAt p (fun d => ?_) ?_ rfl rfl rfl rfl
  · simp only [Holders.heldAt, PerPort.get_set_same, List.count_append]
    omega
  · simp only [Holders.heldAt, PerPort.get_set_of_ne _ _ (opposite_ne p)]

theorem Moves.setAcks (p : Port) (l : List Descriptor) :
    Moves (inn ++ l) (out ++ h'.acks.get p) gone h { h' with acks := h'.acks.set p l } := by
  refine hm.stepAt p (fun d => ?_) ?_ rfl rfl rfl rfl
  · simp only [Holders.heldAt, PerPort.get_set_same, List.count_append]
    omega
  · simp only [Holders.heldAt, PerPort.get_set_of_ne _ _ (opposite_ne p)]

theorem Moves.setPhase (x : Phase) :
    Moves (inn ++ engineFrames x) (out ++ engineFrames h'.phase) gone h { h' with phase := x } := by
  refine hm.step (fun d => ?_) rfl rfl
  simp only [Holders.held, List.count_append]
  omega

theorem Moves.setRequests (l : List Request) :
    Moves (inn ++ l.map (·.frame)) (out ++ h'.requests.map (·.frame)) gone h { h' with requests := l } := by
  refine hm.step (fun d => ?_) rfl rfl
  simp only [Holders.held, List.count_append]
  omega

/-- A frame that comes in is returned at once. -/
theorem Moves.release (d : Descriptor) : Moves (inn ++ [d]) out (gone ++ [d]) h
    { h' with
      free := h'.free ++ d.blocks
      share := h'.share.set d.ingress (h'.share.get d.ingress - d.blocks.length) } where
  held x := by
    have e := hm.held x
    simp only [List.count_append, Holders.held] at e ⊢
    omega
  free := by
    rw [List.flatMap_append, ← List.append_assoc]
    simpa using hm.free.append_right d.blocks
  share p := by
    rw [blocksFrom_append, ← Nat.sub_sub, ← hm.share]
    by_cases hp : d.ingress = p
    · subst hp
      simp [blocksFrom_cons]
    · simp [blocksFrom_cons, hp, PerPort.get_set_of_ne _ _ (Ne.symm hp)]

/-- Frames that come in are returned at once. -/
theorem Moves.releaseAll {st : FrameStore} (ds : List Descriptor) (hshare : h'.share = st.share) : Moves (inn ++ ds) out (gone ++ ds) h
    { h' with free := h'.free ++ ds.flatMap (·.blocks), share := (st.releaseAll ds).share } where
  held x := by
    have e := hm.held x
    simp only [List.count_append, Holders.held] at e ⊢
    omega
  free := by
    rw [List.flatMap_append, ← List.append_assoc]
    exact hm.free.append_right _
  share p := by
    rw [FrameStore.releaseAll_share_get, blocksFrom_append, ← Nat.sub_sub, ← hm.share, hshare]

end

/-- Frames that have left and come in again are counted as neither. -/
theorem Moves.balance {inn out gone inn' out' : List Descriptor} {h h' : Holders} (hm : Moves inn out gone h h')
    (hbalance : (inn ++ out').Perm (inn' ++ out)) : Moves inn' out' gone h h' where
  held d := by
    have e := hm.held d
    have e' := hbalance.count_eq d
    simp only [List.count_append] at e'
    omega
  free := hm.free
  share := hm.share

/-- Frames have been passed on and some returned; none has come in or been lost. -/
def Returned (h h' : Holders) : Prop := ∃ gone, Moves [] [] gone h h'

theorem Returned.refl (h : Holders) : Returned h h := ⟨[], .refl h⟩

theorem Returned.of_eq {h h' : Holders} (e : h' = h) : Returned h h' := e ▸ .refl h

theorem Returned.trans {h h' h'' : Holders} (hr : Returned h h') (hr' : Returned h' h'') : Returned h h'' := by
  obtain ⟨gone, hm⟩ := hr
  obtain ⟨gone', hm'⟩ := hr'
  exact ⟨gone ++ gone', hm.trans hm'⟩

theorem Moves.returned {inn out gone : List Descriptor} {h h' : Holders} (hm : Moves inn out gone h h')
    (hbalance : out.Perm inn) : Returned h h' :=
  ⟨gone, hm.balance (by simpa using hbalance.symm)⟩

/-! ## What the operations do with frames -/

section

variable (s : State) (p : Port)

theorem State.receiverTakesDown_returned : Returned s.holders (s.receiverTakesDown p).holders := by
  simp only [State.receiverTakesDown]
  split
  · split
    · rename_i f hf
      exact (((Moves.refl s.holders).release (f.descriptor p)).setReceiver p .down).returned
        (by simp [State.holders, hf, receivingFrames])
    · rename_i hnot
      exact ((Moves.refl s.holders).setReceiver p .down).returned
        (by cases hr : s.receivers.get p <;> simp_all [State.holders, receivingFrames])
  · exact .refl _

theorem State.transmitterTakesDown_returned : Returned s.holders (s.transmitterTakesDown p).holders := by
  simp only [State.transmitterTakesDown]
  split
  · split
    · rename_i f hf
      have hset := (Moves.refl s.holders).setTransmitter p .down
      cases f with
      | response f => exact hset.returned (by simp [State.holders, hf, sendingFrames])
      | notice f => exact hset.returned (by simp [State.holders, hf, sendingFrames])
      | forwarded d => exact (hset.release d.desc).returned (by simp [State.holders, hf, sendingFrames])
    · rename_i hnot
      exact ((Moves.refl s.holders).setTransmitter p .down).returned
        (by cases ht : s.transmitters.get p <;> simp_all [State.holders, sendingFrames])
  · exact .refl _

theorem State.storeTakesDown_returned : Returned s.holders (s.storeTakesDown p).holders := by
  simp only [State.storeTakesDown]
  split
  · have hmoves := ((Moves.refl s.holders).setForward p []).releaseAll (st := s.store.setForward p [])
      ((s.store.forward.get p).map (·.desc)) rfl
    have hreturned := hmoves.returned (by simp [State.holders])
    rw [FrameStore.flush, FrameStore.releaseAll_eq]
    exact hreturned
  · exact .refl _

theorem State.allTakeDown_returned : Returned s.holders (s.allTakeDown p).holders :=
  ((((s.receiverTakesDown_returned p).trans (State.transmitterTakesDown_returned _ p)).trans
    (State.storeTakesDown_returned _ p)).trans
    (.of_eq ((State.agentTakesDown_within _ p).holders (by decide)))).trans
    (.of_eq ((State.noticeTakesDown_within _ p).holders (by decide)))

end

/-- An operation on a frame in hand places it with a holder or returns it. -/
def Placed (d : Descriptor) (h h' : Holders) : Prop := ∃ gone, Moves [d] [] gone h h'

theorem Placed.release (d : Descriptor) (s : State) : Placed d s.holders (s.release d).holders :=
  ⟨_, (Moves.refl s.holders).release d⟩

theorem Moves.placed {inn out gone : List Descriptor} {h h' : Holders} (hm : Moves inn out gone h h') {d : Descriptor}
    (hbalance : inn.Perm (d :: out)) : Placed d h h' := ⟨gone, hm.balance (by simpa using hbalance)⟩

/-- A frame that has left one holder is placed again. -/
theorem Moves.place {inn out gone : List Descriptor} {h h' h'' : Holders} (hm : Moves inn out gone h h')
    {d : Descriptor} (hplaced : Placed d h' h'') (hbalance : out.Perm (d :: inn)) : Returned h h'' := by
  obtain ⟨gone', hm'⟩ := hplaced
  refine (hm.trans hm').returned ?_
  rw [List.append_nil]
  exact hbalance.trans (List.perm_append_comm (l₁ := [d]))

/-- An offered frame joins the forward queue of the opposite port, or is returned (R22, R115). -/
theorem State.offer_placed (s : State) (d : Screened) : Placed d.desc s.holders (s.offer d).holders := by
  simp only [State.offer]
  split
  · exact .release d.desc s
  · split
    · exact .release d.desc s
    · exact ((Moves.refl s.holders).setForward _ _).placed (by simp [State.holders])

theorem State.decideFrame_placed (s : State) (d : Screened) : Placed d.desc s.holders (s.decideFrame d).holders := by
  have hoffer : ∀ t : State, t.holders = s.holders → Placed d.desc s.holders (t.offer d).holders := fun t e =>
    e ▸ t.offer_placed d
  simp only [State.decideFrame]
  (repeat' split)
  · exact .release d.desc s
  · exact hoffer s rfl
  · exact hoffer _ rfl
  · exact .release d.desc s
  · exact hoffer _ rfl
  · exact .release d.desc s

/-- A valid frame is handed over or returned (R10, R11). -/
theorem State.route_placed (s : State) (d : Descriptor) : Placed d s.holders (s.route d).holders := by
  simp only [State.route, State.offerReady]
  (repeat' split)
  · exact ((Moves.refl s.holders).setInbox _ _).placed (by simp [State.holders])
  · exact ((Moves.refl s.holders).setAcks _ _).placed (by simp [State.holders])
  · exact .release d s
  · exact .release d s
  · exact ((Moves.refl s.holders).setReady _ _).placed (by simp [State.holders])

/-- An arriving request joins the request queue, or its frame is returned (R161). -/
theorem State.judgeArrival_placed (s : State) (r : Request) : Placed r.frame s.holders (s.judgeArrival r).holders := by
  have hdrop : ∀ c, Placed r.frame s.holders (s.dropRequest r c).holders := fun c => .release r.frame s
  have hrespond : ∀ (t : State) (c : Port) (a : Byte) (q g : Half) (x : Byte) (u : Status) (b : List Byte),
      (t.respond c a q g x u b).holders = t.holders := fun t c a q g x u b =>
    (t.respond_within c a q g x u b).holders (by decide)
  simp only [State.judgeArrival]
  (repeat' split)
  · exact hdrop _
  · exact hdrop _
  · rw [hrespond]
    exact hdrop _
  · exact hdrop _
  · simp only [State.holdResponse]
    split
    · exact .release r.frame s
    · exact .release r.frame s
  · exact hdrop _
  · exact hdrop _
  · exact hdrop _
  · exact ((Moves.refl s.holders).setRequests _).placed (by simp [State.holders])

/-- The notice sender returns the frame that it reads (R144). -/
theorem State.readAck_placed (s : State) (d : Descriptor) : Placed d s.holders (s.readAck d).holders := by
  simp only [State.readAck, State.acknowledge]
  (repeat' split) <;> exact .release d s

/-! ## Where a command leaves the frames -/

/-- What a command does with the stored frames and their blocks. -/
inductive FrameMove (s t : State) : Prop
  /-- frames are passed on and some returned; where links are followed none is lost -/
  | passed {lost gone : List Descriptor} (hlost : LinksFollowed s → lost = [])
      (hm : Moves [] lost gone s.holders t.holders)
  /-- a frame starts, with no byte and no block -/
  | started (p : Port) (hm : Moves [Reception.start.descriptor p] [] [] s.holders t.holders)
  /-- the frame `f` in progress takes the free block `b` and `n` bytes -/
  | claimed (p : Port) (f : Reception) (b : BlockId) (n : Nat) (check : Word)
      (hmem : f.descriptor p ∈ s.heldFrames) (hpos : atClaimPosition f.count = true) (hlow : 1 ≤ n)
      (hhigh : n ≤ min Config.blockSize (Config.maxTotal - f.count))
      (hm : Moves [Reception.descriptor ⟨f.count + n, f.blocks ++ [b], check⟩ p] [f.descriptor p] [] s.holders
        { t.holders with free := s.store.free, share := s.store.share })
      (hfree : s.store.free.Perm (b :: t.store.free)) (hroom : s.store.share.get p < Config.portShare)
      (hshare : t.store.share = s.store.share.set p (s.store.share.get p + 1))
  /-- no frame is held -/
  | cleared (hheld : t.heldFrames = []) (hfree : t.store.free = allBlocks) (hshare : t.store.share = .both 0)

theorem Returned.frameMove {s t : State} (h : Returned s.holders t.holders) : FrameMove s t := by
  obtain ⟨gone, hm⟩ := h
  exact .passed (fun _ => rfl) hm

theorem FrameMove.of_eq {s t : State} (h : t.holders = s.holders) : FrameMove s t := (Returned.of_eq h).frameMove

theorem Effect.holders {s t : State} {c : Instr} (h : Effect s c t) : t.holders = s.holders := by
  cases h with
  | header => simp [State.holders, State.writeShadow]
  | entries => simp [State.holders, State.writeShadow]
  | stop => simp [State.holders]
  | release => simp [State.holders]
  | override => simp [State.holders]
  | _ => rfl

/-- The frame of an executed request is returned (R163). -/
theorem Executed.frameMove {c : Instr} {s t : State} (h : Executed c s t) : FrameMove s t := by
  obtain rfl | ⟨r, rest, hr, -, h⟩ := h
  · exact .of_eq rfl
  have hqueue := (Moves.refl s.holders).setRequests s.agent.requests.tail
  have hbalance : ([] ++ s.holders.requests.map Request.frame).Perm
      (r.frame :: ([] ++ s.agent.requests.tail.map Request.frame)) := by
    simp [State.holders, hr]
  obtain ⟨t, u, results, heffect, -, rfl⟩ | ⟨t, haccept, rfl⟩ := h
  · have hholders : (t.respond r.port r.source r.seq r.tag r.command u results).holders = s.dequeue.holders :=
      ((t.respond_within _ _ _ _ _ _ _).holders (by decide)).trans heffect.holders
    have hplaced : Placed r.frame (t.respond r.port r.source r.seq r.tag r.command u results).holders
        (t.answered r u results).holders := Placed.release r.frame _
    rw [hholders] at hplaced
    exact (hqueue.place hplaced hbalance).frameMove
  · have hholders : (t.reserve r).holders = s.dequeue.holders := by cases haccept <;> rfl
    have hplaced : Placed r.frame (t.reserve r).holders ((t.reserve r).endExecution r).holders := Placed.release r.frame _
    rw [hholders] at hplaced
    exact (hqueue.place hplaced hbalance).frameMove

/-- After every block has taken a change to DOWN, a receiver and a transmitter that follow their link are DOWN. -/
theorem State.allTakeDown_down {s : State} (h : LinksFollowed s) {p : Port} (hdown : (s.link.get p).recorded = .down) :
    (s.allTakeDown p).receivers.get p = .down ∧ (s.allTakeDown p).transmitters.get p = .down := by
  obtain ⟨hreceiver, htransmitter, -⟩ := h p
  have htakes : (s.receiverTakesDown p).receivers.get p = .down := by
    simp only [State.receiverTakesDown]
    split
    · split <;> exact PerPort.get_set_same _ _ _
    · rename_i hflag
      exact hreceiver.2 ⟨hdown, Bool.eq_false_of_not_eq_true hflag⟩
  have hlink : ((s.receiverTakesDown p).link.get p).down.transmitter = (s.link.get p).down.transmitter := by
    simp only [State.receiverTakesDown]
    split
    · split <;> simp [State.setDownEvents, State.setLink]
    · rfl
  have htransmits : ((s.receiverTakesDown p).transmitterTakesDown p).transmitters.get p = .down := by
    simp only [State.transmitterTakesDown]
    split
    · split <;> exact PerPort.get_set_same _ _ _
    · rename_i hflag
      rw [hlink] at hflag
      rw [(s.receiverTakesDown_within p) .transmitters rfl]
      exact htransmitter.2 ⟨hdown, Bool.eq_false_of_not_eq_true hflag⟩
  have hrest : ∀ u : State, Within [.link, .blocks, .forward, .responses, .pendingResults, .noticeFrame] u
      (((u.storeTakesDown p).agentTakesDown p).noticeTakesDown p) := fun u =>
    (((u.storeTakesDown_within p).mono (by decide)).trans ((State.agentTakesDown_within _ p).mono (by decide))).trans
      ((State.noticeTakesDown_within _ p).mono (by decide))
  constructor
  · rw [State.allTakeDown, (hrest _) .receivers rfl, (State.transmitterTakesDown_within _ p) .receivers rfl]
    exact htakes
  · rw [State.allTakeDown, (hrest _) .transmitters rfl]
    exact htransmits

theorem grantedBlock_mem {st : FrameStore} {p : Port} (h : st.claimGranted p = true) (pick : BlockId) :
    grantedBlock st.free pick ∈ st.free := by
  simp only [FrameStore.claimGranted, Bool.and_eq_true, Bool.not_eq_true', List.isEmpty_eq_false_iff] at h
  unfold grantedBlock
  split
  · assumption
  · cases hfree : st.free with
    | nil => exact absurd hfree h.1
    | cons b rest => exact List.mem_cons_self

theorem blockBytes_length (count : Nat) (bytes : List Byte) :
    (blockBytes count bytes).length = min (min Config.blockSize (Config.maxTotal - count)) bytes.length := by
  simp [blockBytes]

theorem State.receiving_mem_heldFrames {s : State} {p : Port} {f : Reception} (h : s.receivers.get p = .receiving f) :
    f.descriptor p ∈ s.heldFrames := by
  cases p <;> simp_all [State.heldFrames, receivingFrames]

/-- A granted claim is a claim of a free block for the frame in progress (R7, R18). -/
theorem State.grantClaim_frameMove {s : State} {p : Port} {f : Reception} (hf : s.receivers.get p = .receiving f)
    (hpos : atClaimPosition f.count = true) (hgranted : s.store.claimGranted p = true) (pick : BlockId) (b : Byte)
    (bs : List Byte) : FrameMove s (s.grantClaim p f pick (b :: bs)) := by
  have hcount : f.count < Config.maxTotal := by
    simp only [atClaimPosition, Bool.and_eq_true, decide_eq_true_eq] at hpos
    exact hpos.2
  have hlength := blockBytes_length f.count (b :: bs)
  have hroom : s.store.share.get p < Config.portShare := by
    simp only [FrameStore.claimGranted, Bool.and_eq_true, decide_eq_true_eq] at hgranted
    exact hgranted.2
  refine .claimed p f (grantedBlock s.store.free pick) (blockBytes f.count (b :: bs)).length
    ((blockBytes f.count (b :: bs)).foldl crcByte f.check) (State.receiving_mem_heldFrames hf) hpos ?_ ?_ ?_
    (List.perm_cons_erase (grantedBlock_mem hgranted pick)) hroom rfl
  · rw [hlength, List.length_cons]
    simp only [Config.blockSize] at hcount ⊢
    omega
  · rw [hlength]
    exact Nat.min_le_left _ _
  · refine ((Moves.refl s.holders).setReceiver p (.receiving _)).balance ?_
    simp [State.holders, hf, receivingFrames]

theorem State.completeWalk_holders (s : State) (d : Descriptor) (w : Walk) :
    ∃ x f n, x.desc = d ∧ (s.completeWalk d w).holders = { s.holders with phase := .holding x f n } := by
  have hphase := (s.completeWalk_engine d w).1
  generalize hr : screeningResult d w (walkEnd s.store.bytes d (s.bank w.bank) w) = r at hphase
  refine ⟨r.1, r.2.1, r.2.2, ?_, ?_⟩
  · rw [← hr]
    cases walkEnd s.store.bytes d (s.bank w.bank) w <;> rfl
  · rw [State.holders, hphase]
    simp [State.holders]

theorem State.restartAll_heldFrames (s : State) (r : Request) : (s.restartAll r).heldFrames = [] := by
  have hreceiver : ∀ p (x : Receiver), receivingFrames p x.restart = [] := fun p x => by cases x <;> rfl
  have htransmitter : ∀ (x : Transmitter) (l : Link), sendingFrames (x.restart l) = [] := by
    rintro (_ | _ | f) (_ | _) <;> rfl
  simp [State.heldFrames, State.restartAll, hreceiver, htransmitter, FrameStore.restart, FrameStore.powerOn,
    Engine.restart, Engine.powerOn, engineFrames, Agent.restart, Agent.powerOn, NoticeSender.restart,
    NoticeSender.powerOn, PerPort.both]

/-- A grant passes the forward head, if it is granted, to the idle transmitter (R26). -/
theorem State.grant_returned {s : State} {p : Port} (hidle : s.transmitters.get p = .idle) :
    Returned s.holders (s.grant p).holders := by
  have hresponse : ∀ f, Returned s.holders (s.grantResponse p f).holders := fun f =>
    ((Moves.refl s.holders).setTransmitter p (.sending (.response f))).returned
      (by simp [State.holders, hidle, sendingFrames])
  have hnotice : ∀ f, Returned s.holders (s.grantNotice p f).holders := fun f =>
    ((Moves.refl s.holders).setTransmitter p (.sending (.notice f))).returned
      (by simp [State.holders, hidle, sendingFrames])
  have hforward : ∀ d rest, s.store.forward.get p = d :: rest → Returned s.holders (s.grantForward p d rest).holders :=
    fun d rest hq =>
    (((Moves.refl s.holders).setForward p rest).setTransmitter p (.sending (.forwarded d))).returned
      (by simpa [State.holders, hidle, sendingFrames, hq] using List.perm_append_comm (l₁ := [d.desc]))
  simp only [State.grant]
  split
  · rename_i d rest hq
    split
    · exact hforward d rest hq
    · split
      · exact hresponse _
      · exact hnotice _
      · exact hforward d rest hq
  · split
    · exact hresponse _
    · exact hnotice _
    · exact .refl _

theorem exec_frameMove {c : Instr} {s t : State} (h : exec c s = .next t) : FrameMove s t := by
  by_cases hrequest : c ∈ requestCommands
  · obtain ⟨t', e, hexecuted⟩ := exec_executed hrequest s
    cases h.symm.trans e
    exact hexecuted.frameMove
  cases c with
  | powerOnReset =>
    cases h
    exact .cleared rfl rfl rfl
  | restart =>
    obtain ⟨r, rest, -, -, -, -, rfl⟩ | hrefused := execRestart_cases h
    · have hholders := ((s.restartAll r).respond_within r.port r.source r.seq r.tag r.command .done []).holders (by decide)
      refine .cleared ?_ ?_ ?_
      · rw [State.heldFrames_eq, hholders]
        exact s.restartAll_heldFrames r
      · exact congrArg Holders.free hholders
      · exact congrArg Holders.share hholders
    · exact hrefused.frameMove
  | linkChangeUp p =>
    revert h
    simp only [exec, execLinkChangeUp]
    split <;> rintro ⟨⟩
    · exact .of_eq rfl
    · rename_i hdown
      obtain ⟨gone, hm⟩ := s.allTakeDown_returned p
      refine .passed (fun hlinks => ?_) (((hm.setReceiver p .idle).setTransmitter p .idle).balance (List.Perm.refl _))
      obtain ⟨hreceiver, htransmitter⟩ := State.allTakeDown_down hlinks hdown
      simp [State.holders, hreceiver, htransmitter, receivingFrames, sendingFrames]
  | receiverLinkDown p =>
    cases h
    exact (s.receiverTakesDown_returned p).frameMove
  | transmitterLinkDown p =>
    cases h
    exact (s.transmitterTakesDown_returned p).frameMove
  | flush p =>
    cases h
    exact (s.storeTakesDown_returned p).frameMove
  | frameStart p =>
    revert h
    simp only [exec, execFrameStart]
    split <;> rintro ⟨⟩
    · rename_i hidle
      exact .started p (((Moves.refl s.holders).setReceiver p (.receiving .start)).balance
        (by simp [State.holders, hidle, receivingFrames]))
    · exact .of_eq rfl
  | frameEndInDiscarding p =>
    revert h
    simp only [exec, execFrameEndInDiscarding]
    split <;> rintro ⟨⟩
    · rename_i hr
      exact (((Moves.refl s.holders).setReceiver p .idle).returned
        (by simp [State.holders, hr, receivingFrames])).frameMove
    · exact .of_eq rfl
  | blockClaim p pick bytes =>
    revert h
    simp only [exec, execBlockClaim]
    split
    · rename_i f b bs hf
      split
      · split <;> rintro ⟨⟩
        · exact State.grantClaim_frameMove hf ‹_› ‹_› pick b bs
        · exact (((Moves.refl s.holders).release (f.descriptor p)).setReceiver p .discarding |>.returned
            (by simp [State.holders, hf, receivingFrames])).frameMove
      · rintro ⟨⟩
        exact .of_eq rfl
    · rintro ⟨⟩
      exact .of_eq rfl
  | oversize p =>
    revert h
    simp only [exec, execOversize]
    split
    · rename_i f hf
      split <;> rintro ⟨⟩
      · exact (((Moves.refl s.holders).release (f.descriptor p)).setReceiver p .discarding |>.returned
          (by simp [State.holders, hf, receivingFrames])).frameMove
      · exact .of_eq rfl
    · rintro ⟨⟩
      exact .of_eq rfl
  | frameEnd p aborted =>
    revert h
    simp only [exec, execFrameEnd]
    split
    · rename_i f hf
      have hidle := (Moves.refl s.holders).setReceiver p .idle
      have hbalance : ([] ++ receivingFrames p (s.holders.receivers.get p)).Perm
          (f.descriptor p :: ([] ++ receivingFrames p .idle)) := by simp [State.holders, hf, receivingFrames]
      split <;> rintro ⟨⟩
      · have hplaced : Placed (f.descriptor p) (s.setReceiver p .idle).holders
            ((s.setReceiver p .idle).discardReceived (f.descriptor p) ‹_›).holders := Placed.release _ _
        exact (hidle.place hplaced hbalance).frameMove
      · exact (hidle.place ((s.setReceiver p .idle).route_placed (f.descriptor p)) hbalance).frameMove
    · rintro ⟨⟩
      exact .of_eq rfl
  | mgmtRequestArrival p =>
    revert h
    simp only [exec, execMgmtRequestArrival]
    split <;> rintro ⟨⟩
    · exact .of_eq rfl
    · rename_i d rest hinbox
      have hplaced := State.judgeArrival_placed
        { s with agent := { s.agent with inbox := s.agent.inbox.set p rest } } (s.requestOf d)
      exact (((Moves.refl s.holders).setInbox p rest).place (d := d) hplaced (by simp [State.holders, hinbox])).frameMove
  | noticeAck p =>
    revert h
    simp only [exec, execNoticeAck]
    split <;> rintro ⟨⟩
    · exact .of_eq rfl
    · rename_i d rest hinbox
      have hplaced := State.readAck_placed { s with notice := { s.notice with inbox := s.notice.inbox.set p rest } } d
      exact (((Moves.refl s.holders).setAcks p rest).place (d := d) hplaced (by simp [State.holders, hinbox])).frameMove
  | frameTake =>
    obtain e | ⟨p, d, rest, hidle, -, -, hready, ⟨-, e⟩ | ⟨-, e⟩⟩ := execFrameTake_cases s
    · cases h.symm.trans e
      exact .of_eq rfl
    · cases h.symm.trans e
      exact (((Moves.refl s.holders).setReady p rest).setPhase (.walking d (s.startWalk p)) |>.returned
        (by simpa [State.holders, hready, hidle, engineFrames] using List.perm_append_comm (l₁ := [d]))).frameMove
    · cases h.symm.trans e
      obtain ⟨x, f, n, hx, hholders⟩ := (s.takeHead p rest).completeWalk_holders d (s.startWalk p)
      have hm := ((Moves.refl s.holders).setReady p rest).setPhase (.holding x f n)
      refine Returned.frameMove ?_
      rw [hholders]
      exact hm.returned (by simpa [State.holders, hready, hidle, engineFrames, hx] using List.perm_append_comm (l₁ := [d]))
  | walkCompletion =>
    revert h
    simp only [exec, execWalkCompletion]
    split <;> rintro ⟨⟩
    · rename_i d w hwalking
      obtain ⟨x, f, n, hx, hholders⟩ := s.completeWalk_holders d w
      refine Returned.frameMove ?_
      rw [hholders]
      exact ((Moves.refl s.holders).setPhase (.holding x f n)).returned
        (by simp [State.holders, hwalking, engineFrames, hx])
    · exact .of_eq rfl
  | switchRequest =>
    revert h
    simp only [exec, execSwitchRequest]
    (repeat' split) <;> rintro ⟨⟩
    · exact .of_eq rfl
    · exact .of_eq (by simp [State.holders])
    · exact .of_eq rfl
  | monitorTakeFrame =>
    revert h
    simp only [exec, execMonitorTakeFrame]
    split <;> rintro ⟨⟩
    · rename_i d f n hholding
      have hbefore : (s.monitorsTake d).holders = s.holders := by simp [State.holders]
      have hphase : ((s.monitorsTake d).decideFrame d).holders.phase = .holding d f n := by simp [State.holders, hholding]
      obtain ⟨gone, hm⟩ := (s.monitorsTake d).decideFrame_placed d
      rw [hbefore] at hm
      exact ((hm.setPhase .idle).returned (by rw [hphase]; simp [engineFrames])).frameMove
    · exact .of_eq rfl
  | purge c =>
    revert h
    simp only [exec, execPurge, FrameStore.purge]
    rw [FrameStore.releaseAll_eq]
    split <;> rintro ⟨⟩
    · have hm := (((Moves.refl s.holders).setForward .a (s.store.forward.a.filter fun d => !ofClass c d)).setForward .b
        (s.store.forward.b.filter fun d => !ofClass c d)).releaseAll
          (st := { s.store with forward := ⟨s.store.forward.a.filter fun d => !ofClass c d,
            s.store.forward.b.filter fun d => !ofClass c d⟩ })
          ((s.store.forward.a.filter (ofClass c) ++ s.store.forward.b.filter (ofClass c)).map (·.desc)) rfl
      refine (hm.returned ?_).frameMove
      have hkept : ∀ l : List Screened,
          (l.map (·.desc)).Perm ((l.filter (ofClass c)).map (·.desc) ++ (l.filter fun d => !ofClass c d).map (·.desc)) :=
        fun l => by
          rw [← List.map_append]
          exact (List.filter_append_perm (ofClass c) l).symm.map _
      simp only [State.holders, List.nil_append, List.map_append, PerPort.get_a, PerPort.get_b, PerPort.set_a_b]
      refine ((hkept s.store.forward.a).append (hkept s.store.forward.b)).trans (List.perm_iff_count.2 fun x => ?_)
      simp only [List.count_append]
      omega
    · exact .of_eq rfl
  | egressGrant p =>
    revert h
    simp only [exec, execEgressGrant]
    split <;> rintro ⟨⟩
    · rename_i hidle hup
      exact (s.grant_returned hidle).frameMove
    · exact .of_eq rfl
  | endOfTransmission p =>
    revert h
    simp only [exec, execEndOfTransmission]
    split <;> rintro ⟨⟩
    · rename_i f hf
      have hset := (Moves.refl s.holders).setTransmitter p .idle
      cases f with
      | response f => exact (hset.returned (by simp [State.holders, hf, sendingFrames])).frameMove
      | notice f => exact (hset.returned (by simp [State.holders, hf, sendingFrames])).frameMove
      | forwarded d => exact ((hset.release d.desc).returned (by simp [State.holders, hf, sendingFrames])).frameMove
    · exact .of_eq rfl
  | _ => first
    | exact absurd (by decide) hrequest
    | exact .of_eq ((exec_within h).holders (by simp [footprint]))

/-! ## The invariants of the stored frames -/

/-- Frames that move balance, as lists up to order. -/
theorem Moves.perm {inn out gone : List Descriptor} {h h' : Holders} (hm : Moves inn out gone h h') :
    (inn ++ h.held).Perm (out ++ gone ++ h'.held) :=
  List.perm_iff_count.2 fun d => by simpa only [List.count_append] using hm.held d

theorem blocksFrom_perm {l l' : List Descriptor} (h : l.Perm l') (p : Port) : blocksFrom p l = blocksFrom p l' :=
  ((h.filter _).map _).sum_eq

theorem FrameMove.blocksConserved {s t : State} (hmove : FrameMove s t) (hlinks : LinksFollowed s)
    (h : BlocksConserved s) : BlocksConserved t := by
  rw [BlocksConserved, State.heldFrames_eq] at h ⊢
  cases hmove with
  | passed hlost hm =>
    rw [hlost hlinks] at hm
    have hblocks := hm.perm.flatMap_right (fun d => d.blocks)
    simp only [List.nil_append, List.flatMap_append] at hblocks
    refine (hm.free.append_right _).trans (.trans ?_ h)
    rw [List.append_assoc]
    exact hblocks.symm.append_left _
  | started p hm =>
    have hblocks := hm.perm.flatMap_right (fun d => d.blocks)
    refine (hm.free.append_right _).trans (.trans ?_ h)
    simpa [Reception.start, Reception.descriptor, State.holders] using hblocks.symm.append_left s.store.free
  | claimed p f b n check hmem hpos hlow hhigh hm hfree hroom hshare =>
    have hblocks := hm.perm.flatMap_right (fun d => d.blocks)
    simp only [List.singleton_append, List.append_nil, List.flatMap_cons, List.append_assoc, Reception.descriptor,
      List.perm_append_left_iff] at hblocks
    refine .trans ?_ h
    refine .trans ?_ (hfree.symm.append_right _)
    have hheld : ((t.holders.held).flatMap (·.blocks)).Perm (b :: s.holders.held.flatMap (·.blocks)) := hblocks.symm
    exact (hheld.append_left _).trans (List.perm_middle (a := b))
  | cleared hheld hfree hshare =>
    rw [← State.heldFrames_eq, hheld, hfree]
    simp

/-- Settles O3: what a command does with frames returns every block that leaves a frame. -/
theorem blocksStayConserved : Obligations.BlocksStayConserved :=
  step_keeps (fun _ _ => id) (fun _ _ => id) fun _ _ _ hlinks hs h => (exec_frameMove h).blocksConserved hlinks hs

theorem FrameMove.sharesTrue {s t : State} (hmove : FrameMove s t) (hlinks : LinksFollowed s)
    (h : SharesTrue s) : SharesTrue t := by
  intro q
  obtain ⟨hshare, hmost⟩ := h q
  rw [State.heldFrom, State.heldFrames_eq] at hshare ⊢
  cases hmove with
  | passed hlost hm =>
    rw [hlost hlinks] at hm
    have hblocks := blocksFrom_perm hm.perm q
    have hnew := hm.share q
    simp only [List.nil_append, blocksFrom_append, State.holders] at hblocks hnew hshare ⊢
    omega
  | started p hm =>
    have hblocks := blocksFrom_perm hm.perm q
    have hnew := hm.share q
    simp only [List.singleton_append, List.nil_append, blocksFrom_cons, blocksFrom_nil, Reception.start, Reception.descriptor,
      List.length_nil, ite_self, Nat.zero_add, State.holders] at hblocks hnew hshare ⊢
    omega
  | claimed p f b n check hmem hpos hlow hhigh hm hfree hroom hnew =>
    have hblocks := blocksFrom_perm hm.perm q
    simp only [List.singleton_append, List.append_nil, blocksFrom_cons, Reception.descriptor,
      List.length_append, List.length_cons, List.length_nil] at hblocks
    have hheld : blocksFrom q ({ t.holders with free := s.store.free, share := s.store.share } : Holders).held =
        blocksFrom q t.holders.held := rfl
    rw [hheld] at hblocks
    rw [hnew]
    by_cases hq : p = q
    · subst hq
      rw [if_pos rfl, if_pos rfl] at hblocks
      rw [PerPort.get_set_same]
      omega
    · rw [if_neg hq, if_neg hq, Nat.zero_add, Nat.zero_add] at hblocks
      rw [PerPort.get_set_of_ne _ _ (Ne.symm hq), ← hblocks]
      exact ⟨hshare, hmost⟩
  | cleared hheld hfree hnew =>
    rw [← State.heldFrames_eq, hheld, hnew]
    simp

/-- Settles O4: a share loses what returns and gains what is claimed below 64. -/
theorem sharesStayTrue : Obligations.SharesStayTrue :=
  step_keeps (fun _ _ => id) (fun _ _ => id) fun _ _ _ hlinks hs h => (exec_frameMove h).sharesTrue hlinks hs

/-- A frame at a claim position has whole blocks; it needs one more for any byte up to the next claim position. -/
theorem blocksFor_claim {count n : Nat} (hpos : atClaimPosition count = true) (hlow : 1 ≤ n)
    (hhigh : n ≤ min Config.blockSize (Config.maxTotal - count)) :
    count + n ≤ Config.maxTotal ∧ blocksFor (count + n) = blocksFor count + 1 := by
  simp only [atClaimPosition, Bool.and_eq_true, decide_eq_true_eq] at hpos
  simp only [Config.blockSize, Config.maxTotal, blocksFor] at *
  omega

theorem FrameMove.framesSized {s t : State} (hmove : FrameMove s t) (h : FramesSized s) : FramesSized t := by
  intro d hd
  rw [State.heldFrames_eq] at hd
  cases hmove with
  | passed hlost hm =>
    refine h d (hm.perm.mem_iff.2 ?_)
    simp [hd]
  | started p hm =>
    have hmem := hm.perm.mem_iff.2 (List.mem_append_right _ hd)
    simp only [List.singleton_append, List.mem_cons] at hmem
    obtain rfl | hmem := hmem
    · exact ⟨Nat.zero_le Config.maxTotal, by simp [Reception.start, Reception.descriptor, blocksFor]⟩
    · exact h d hmem
  | claimed p f b n check hf hpos hlow hhigh hm hfree hroom hnew =>
    have hmem := hm.perm.mem_iff.2 (List.mem_append_right _ hd)
    simp only [List.singleton_append, List.mem_cons] at hmem
    obtain rfl | hmem := hmem
    · obtain ⟨-, hblocks⟩ := h _ hf
      obtain ⟨htotal, hneeded⟩ := blocksFor_claim hpos hlow hhigh
      refine ⟨htotal, ?_⟩
      simp only [Reception.descriptor, List.length_append, List.length_singleton] at hblocks ⊢
      rw [hblocks, hneeded]
    · exact h d hmem
  | cleared hheld hfree hnew =>
    rw [← State.heldFrames_eq, hheld] at hd
    cases hd

/-- Settles O5: frames are passed on as they are, and a claim gives a frame the block that its next bytes need. -/
theorem framesStaySized : Obligations.FramesStaySized :=
  step_keeps_alone (fun _ _ => id) fun _ _ _ hs h => (exec_frameMove h).framesSized hs

end Sys2Proof.Machine
end

section
/-! PROOFS. The bytes of stored frames (R7, R17): reading back what is written, marks and substitutions (R112, R114), the
check (R174), and the running checks of the receivers (section 1.3). -/

namespace Sys2Proof.Machine

set_option Elab.async false

/-! ## Addresses of a stored frame -/

theorem frameAddress_of_lt {d : Descriptor} {i : Nat} (h : i / Config.blockSize < d.blocks.length) :
    ∃ a, frameAddress d i = some a := ⟨_, by rw [frameAddress, List.getElem?_eq_getElem h]; rfl⟩

theorem frameAddress_eq_some_iff {d : Descriptor} {i a : Nat} : frameAddress d i = some a ↔
    ∃ b, d.blocks[i / Config.blockSize]? = some b ∧ Config.blockSize * b.val + i % Config.blockSize = a := by
  simp [frameAddress]

/-- An address names its block and the place in it. -/
theorem address_eq_iff {b b' : BlockId} {i j : Nat} :
    Config.blockSize * b.val + i % Config.blockSize = Config.blockSize * b'.val + j % Config.blockSize ↔
      b = b' ∧ i % Config.blockSize = j % Config.blockSize := by
  simp only [Config.blockSize, Fin.ext_iff]
  omega

/-- Two positions of a frame of distinct blocks have different addresses. -/
theorem frameAddress_injective {d : Descriptor} (hd : d.blocks.Nodup) {i j a : Nat} (hi : frameAddress d i = some a)
    (hj : frameAddress d j = some a) : i = j := by
  obtain ⟨b, hb, ha⟩ := frameAddress_eq_some_iff.1 hi
  obtain ⟨b', hb', ha'⟩ := frameAddress_eq_some_iff.1 hj
  obtain ⟨rfl, hplace⟩ := address_eq_iff.1 (ha.trans ha'.symm)
  have hlt := (List.getElem?_eq_some_iff.1 hb).1
  have hblock := (List.getElem?_inj hlt hd).1 (hb.trans hb'.symm)
  have hi' := Nat.div_add_mod i Config.blockSize
  have hj' := Nat.div_add_mod j Config.blockSize
  rw [hblock, hplace] at hi'
  omega

/-- Frames that share no block share no address. -/
theorem frameAddress_ne_of_disjoint {d d' : Descriptor} (h : ∀ b ∈ d.blocks, b ∉ d'.blocks) {i a : Nat}
    (hi : frameAddress d i = some a) (j : Nat) : frameAddress d' j ≠ some a := by
  intro hj
  obtain ⟨b, hb, ha⟩ := frameAddress_eq_some_iff.1 hi
  obtain ⟨b', hb', ha'⟩ := frameAddress_eq_some_iff.1 hj
  obtain ⟨rfl, -⟩ := address_eq_iff.1 (ha.trans ha'.symm)
  exact h b (List.mem_of_getElem? hb) (List.mem_of_getElem? hb')

theorem frameByte_of_address {cells : List Host.Cell} {d : Descriptor} {i a : Nat} (h : frameAddress d i = some a) :
    frameByte cells d i = readCells cells a := by
  rw [frameByte, h]

/-- Frames whose addresses and reads agree have the same byte. -/
theorem frameByte_congr {cells cells' : List Host.Cell} {d : Descriptor} {i : Nat}
    (h : ∀ a, frameAddress d i = some a → readCells cells' a = readCells cells a) :
    frameByte cells' d i = frameByte cells d i := by
  unfold frameByte
  split
  · exact h _ ‹_›
  · rfl

/-! ## Reading back -/

/-- A write of a run of bytes leaves the positions before and after it. -/
theorem frameByte_writeFrameBytes_of_outside {cells : List Host.Cell} {d : Descriptor} (hwf : Memory.wf cells = true)
    (hd : d.blocks.Nodup) {i k : Nat} {vs : List Byte} (hk : k < i ∨ i + vs.length ≤ k) :
    frameByte (writeFrameBytes d i vs cells) d k = frameByte cells d k := by
  refine frameByte_congr fun a ha => read_writeFrameBytes_of_outside d a i vs hwf fun j hlow hhigh hj => ?_
  have e := frameAddress_injective hd ha hj
  omega

/-- A position of a written run holds the byte written there. -/
theorem frameByte_writeFrameBytes_of_inside {d : Descriptor} (hd : d.blocks.Nodup) {vs : List Byte} :
    ∀ {cells : List Host.Cell} {i j : Nat}, Memory.wf cells = true → j < vs.length →
      (i + j) / Config.blockSize < d.blocks.length →
      frameByte (writeFrameBytes d i vs cells) d (i + j) = byteAt vs j := by
  induction vs with
  | nil => exact fun _ h => absurd h (Nat.not_lt_zero _)
  | cons v vs ih =>
    intro cells i j hwf hj hblock
    cases j with
    | zero =>
      obtain ⟨a, ha⟩ := frameAddress_of_lt hblock
      have hstay := frameByte_writeFrameBytes_of_outside (d := d) (wf_writeFrameByte hwf d i v) hd (i := i + 1) (k := i)
        (vs := vs) (.inl (Nat.lt_succ_self i))
      have hwrite : frameByte (writeFrameByte d i v cells) d i = v := by
        rw [Nat.add_zero] at ha
        rw [frameByte_of_address ha, writeFrameByte, ha]
        exact (read_write hwf a a v).trans (if_pos rfl)
      exact hstay.trans hwrite
    | succ j =>
      have e : i + (j + 1) = i + 1 + j := by omega
      rw [e] at hblock ⊢
      rw [writeFrameBytes, ih (wf_writeFrameByte hwf d i v) (Nat.lt_of_succ_lt_succ hj) hblock]
      rfl

/-- Each position of a frame with the blocks that its length needs lies in one of its blocks. -/
theorem block_of_position {d : Descriptor} (hlength : d.blocks.length = blocksFor d.total) {i : Nat} (hi : i < d.total) :
    i / Config.blockSize < d.blocks.length := by
  simp only [hlength, blocksFor, Config.blockSize]
  omega

/-! ## The check of a run of bytes (R174) -/

theorem wordAtLe_append_le32 (bs : List Byte) (c : Word) : wordAtLe (bs ++ le32 c) bs.length = c := by
  have hbyte : ∀ i, byteAt (bs ++ le32 c) (bs.length + i) = byteAt (le32 c) i := fun i => by
    rw [byteAt, List.getD_append_right _ _ _ _ (Nat.le_add_right _ _), Nat.add_sub_cancel_left]
    rfl
  have hzero := hbyte 0
  rw [Nat.add_zero] at hzero
  rw [wordAtLe, hzero, hbyte, hbyte, hbyte]
  exact be32_join c

/-- A run of bytes that ends in its check, least significant byte first, passes check 4 of R9. -/
theorem checkMatches_append_check (bs : List Byte) : checkMatches (bs ++ le32 (crc bs)) = true := by
  have hlength : (bs ++ le32 (crc bs)).length - 4 = bs.length := by simp
  rw [checkMatches, decide_eq_true_iff, hlength, wordAtLe_append_le32, List.take_left']
  rfl

/-! ## Marks (R112) -/

/-- After a recomputation, a frame's bytes are its header and payload as they stood and their check. -/
theorem frameBytes_recomputeCheck {cells : List Host.Cell} {d : Descriptor} (hwf : Memory.wf cells = true)
    (hd : d.blocks.Nodup) (hlength : d.blocks.length = blocksFor d.total) (htotal : 4 ≤ d.total) :
    frameBytes (recomputeCheck d cells) d =
      (List.range (d.total - 4)).map (frameByte cells d) ++
        le32 (crc ((List.range (d.total - 4)).map (frameByte cells d))) := by
  generalize hbody : (List.range (d.total - 4)).map (frameByte cells d) = body
  have hrange : List.range d.total = List.range (d.total - 4) ++ (List.range 4).map (d.total - 4 + ·) := by
    rw [← List.range_add]
    congr 1
    omega
  rw [frameBytes, hrange, List.map_append, List.map_map]
  congr 1
  · rw [← hbody]
    refine List.map_congr_left fun i hi => ?_
    exact frameByte_writeFrameBytes_of_outside hwf hd (.inl (List.mem_range.1 hi))
  · have hbytes : ∀ i < 4, frameByte (recomputeCheck d cells) d (d.total - 4 + i) = byteAt (le32 (crc body)) i := by
      intro i hi
      rw [recomputeCheck, hbody]
      exact frameByte_writeFrameBytes_of_inside hd hwf hi (block_of_position hlength (by omega))
    exact (List.map_congr_left fun i hi => hbytes i (List.mem_range.1 hi)).trans rfl

theorem frameByte_setFrameFlags {cells : List Host.Cell} {d : Descriptor} (hwf : Memory.wf cells = true)
    (hd : d.blocks.Nodup) (hlength : d.blocks.length = blocksFor d.total) (htotal : 12 ≤ d.total) (bits : Byte) (i : Nat) :
    frameByte (setFrameFlags d bits cells) d i =
      if i = 3 then frameByte cells d 3 ||| bits else frameByte cells d i := by
  split
  · rename_i hi
    subst hi
    exact frameByte_writeFrameBytes_of_inside (vs := [frameByte cells d 3 ||| bits]) (i := 3) (j := 0) hd hwf
      Nat.zero_lt_one (block_of_position hlength (by omega))
  · refine frameByte_writeFrameBytes_of_outside (vs := [frameByte cells d 3 ||| bits]) (i := 3) hwf hd ?_
    simp only [List.length_singleton]
    omega

/-- Settles O22: the check is recomputed over the bytes as the flags leave them. -/
theorem markedFramesCarryTheirCheck : Obligations.MarkedFramesCarryTheirCheck := by
  intro cells d bits hwf hd hlength htotal after
  have hflags := frameByte_setFrameFlags hwf hd hlength htotal bits
  have hwf' : Memory.wf (setFrameFlags d bits cells) = true := wf_setFrameFlags hwf d bits
  have hbody : ∀ i, i < d.total - 4 → frameByte after d i = frameByte (setFrameFlags d bits cells) d i := fun i hi =>
    frameByte_writeFrameBytes_of_outside hwf' hd (.inl hi)
  refine ⟨?_, ?_, fun i hi hne => ?_, fun a ha => ?_⟩
  · rw [frameBytes_recomputeCheck hwf' hd hlength (by omega)]
    exact checkMatches_append_check _
  · rw [hbody 3 (by omega), hflags, if_pos rfl]
  · rw [hbody i hi, hflags, if_neg hne]
  · have hcheck : readCells after a = readCells (setFrameFlags d bits cells) a :=
      read_writeFrameBytes_of_outside d a _ _ hwf' fun j hlow hhigh => ha j (by simp at hhigh; omega)
    rw [hcheck]
    exact read_writeFrameBytes_of_outside d a 3 [frameByte cells d 3 ||| bits] hwf fun j hlow hhigh =>
      ha j (by simp at hhigh; omega)

/-! ## Frames that the part originates (R16, R174) -/

/-- One bit into the check register, in the rule's words (R174). -/
theorem crcBit_eq (register : Word) (bit : Bool) : crcBit register bit =
    if register.getLsbD 0 = bit then register >>> 1 else (register >>> 1) ^^^ 0xEDB88320 := by
  simp [crcBit]

/-- The check register takes the bits of the bytes one after the other. -/
theorem foldl_crcByte (bytes : List Byte) (register : Word) : bytes.foldl crcByte register =
    (bytes.flatMap fun b => (List.range 8).map fun i => b.getLsbD i).foldl crcBit register := by
  induction bytes generalizing register with
  | nil => rfl
  | cons b bytes ih =>
    rw [List.foldl_cons, List.flatMap_cons, List.foldl_append, ih, List.foldl_map]
    rfl

theorem Originated.body_length (f : Originated) : f.body.length = f.payload.length + 8 := by
  simp [Originated.body]
  omega

theorem Originated.bytes_length (f : Originated) : f.bytes.length = f.payload.length + 12 := by
  simp [Originated.bytes, f.body_length]

/-- The length field of an originated frame counts its payload, as far as two bytes count. -/
theorem Originated.halfAt_six (f : Originated) : halfAt f.bytes 6 = BitVec.ofNat 16 f.payload.length := by
  have hjoin := be16_join (BitVec.ofNat 16 f.payload.length)
  exact hjoin

/-- Settles O21: the check is appended to what it checks, and the length field is the payload's length. -/
theorem originatedFramesAreValid : Obligations.OriginatedFramesAreValid := by
  refine ⟨?_, fun _ => decide_eq_true_iff, ?_⟩
  · intro bytes bits taken
    have htaken : crcBit = taken := funext fun r => funext fun b => crcBit_eq r b
    rw [crc, foldl_crcByte, htaken]
    rfl
  · intro f body c
    refine ⟨rfl, f.bytes_length, fun hsmall => ?_⟩
    have hlength : lengthMatches f.bytes = true := by
      rw [lengthMatches, decide_eq_true_iff, f.halfAt_six, f.bytes_length, BitVec.toNat_ofNat, Nat.mod_eq_of_lt (by omega)]
    have hcheck : checkMatches f.bytes = true := checkMatches_append_check f.body
    have hlong : ¬ f.bytes.length < 12 := by
      rw [f.bytes_length]
      omega
    simp [firstFailure, hlong, hlength, hcheck]

/-! ## Substitution (R114) -/

/-- The mask of a window's bits. -/
def lowBits : Width → Word
  | .one => 0xFF
  | .two => 0xFFFF
  | .four => 0xFFFFFFFF

theorem and_lowBits_toNat (v : Word) (w : Width) : (v &&& lowBits w).toNat = v.toNat % 2 ^ (8 * widthBytes w) := by
  have hv := v.isLt
  cases w
  · exact (BitVec.toNat_and ..).trans (Nat.and_two_pow_sub_one_eq_mod v.toNat 8)
  · exact (BitVec.toNat_and ..).trans (Nat.and_two_pow_sub_one_eq_mod v.toNat 16)
  · exact (BitVec.toNat_and ..).trans (Nat.and_two_pow_sub_one_eq_mod v.toNat 32)

/-- A window that holds the low bytes of a value, most significant first, reads as the value's low bits. -/
theorem windowValue_of_bytes {cells : List Host.Cell} {d : Descriptor} {offset : Nat} {w : Width} {v : Word}
    (h : ∀ i < widthBytes w, frameByte cells d (offset + i) = byteAt ((be32 v).drop (4 - widthBytes w)) i) :
    windowValue cells d offset w = v &&& lowBits w := by
  have hbyte := extract_byte_toNat v
  have h0 := hbyte 0
  have h1 := hbyte 8
  have h2 := hbyte 16
  have h3 := hbyte 24
  have hv := v.isLt
  apply BitVec.eq_of_toNat_eq
  rw [and_lowBits_toNat]
  cases w with
  | one =>
    have e0 : frameByte cells d offset = v.extractLsb' 0 8 := h 0 (by decide)
    rw [windowValue_one_toNat, e0]
    simp only [widthBytes]
    omega
  | two =>
    have e0 : frameByte cells d offset = v.extractLsb' 8 8 := h 0 (by decide)
    have e1 : frameByte cells d (offset + 1) = v.extractLsb' 0 8 := h 1 (by decide)
    rw [windowValue_two_toNat, e0, e1]
    simp only [widthBytes]
    omega
  | four =>
    have e0 : frameByte cells d offset = v.extractLsb' 24 8 := h 0 (by decide)
    have e1 : frameByte cells d (offset + 1) = v.extractLsb' 16 8 := h 1 (by decide)
    have e2 : frameByte cells d (offset + 2) = v.extractLsb' 8 8 := h 2 (by decide)
    have e3 : frameByte cells d (offset + 3) = v.extractLsb' 0 8 := h 3 (by decide)
    rw [windowValue_four_toNat, e0, e1, e2, e3]
    simp only [widthBytes]
    omega

theorem windowBytes_length (w : Width) (v : Word) : ((be32 v).drop (4 - widthBytes w)).length = widthBytes w := by
  cases w <;> rfl

/-- A rewritten window, the rest of its frame, and the rest of the pool. -/
theorem rewriteSample_writes {cells : List Host.Cell} {d : Descriptor} {x : Sample} (value : Word)
    (hwf : Memory.wf cells = true) (hd : d.blocks.Nodup) (hlength : d.blocks.length = blocksFor d.total)
    (hwindow : x.offset + widthBytes x.width ≤ d.total) :
    windowValue (rewriteSample d x value cells) d x.offset x.width =
      ((windowValue cells d x.offset x.width &&& ~~~ x.mask) ||| (value &&& x.mask)) &&& lowBits x.width ∧
    (∀ i, i < d.total → i < x.offset ∨ x.offset + widthBytes x.width ≤ i →
      frameByte (rewriteSample d x value cells) d i = frameByte cells d i) ∧
    ∀ a, (∀ i, x.offset ≤ i → i < x.offset + widthBytes x.width → frameAddress d i ≠ some a) →
      readCells (rewriteSample d x value cells) a = readCells cells a := by
  refine ⟨windowValue_of_bytes fun i hi => ?_, fun i _ hi => ?_, fun a ha => ?_⟩
  · exact frameByte_writeFrameBytes_of_inside hd hwf (by rwa [windowBytes_length])
      (block_of_position hlength (by omega))
  · exact frameByte_writeFrameBytes_of_outside hwf hd (by rwa [windowBytes_length])
  · exact read_writeFrameBytes_of_outside d a _ _ hwf (by simpa only [windowBytes_length] using ha)

theorem rewriteSlots_append (d : Screened) (l l' : List (Fin 4 × Word)) (cells : List Host.Cell) :
    rewriteSlots d (l ++ l') cells = rewriteSlots d l' (rewriteSlots d l cells) := by
  induction l generalizing cells with
  | nil => rfl
  | cons r rest ih => exact ih _

theorem State.rewrites_ascending (s : State) (c : ClassId) : ((s.rewrites c).map (·.1)).Pairwise (· < ·) := by
  have hslots : (List.finRange 4).Pairwise (· < ·) := by decide
  rw [State.rewrites, List.map_filterMap, List.pairwise_filterMap]
  refine hslots.imp fun hlt x hx y hy => ?_
  simp only [Option.map_map, Option.map_eq_some_iff, Function.comp_apply] at hx hy
  obtain ⟨-, -, rfl⟩ := hx
  obtain ⟨-, -, rfl⟩ := hy
  exact hlt

/-- The judged bits of a rewritten window are the substitute value's. -/
theorem judged_bits (w v m low : Word) : ((w &&& ~~~ m ||| v &&& m) &&& low) &&& m = v &&& m &&& low := by
  ext i hi
  simp only [BitVec.getElem_and, BitVec.getElem_or, BitVec.getElem_not]
  cases w[i] <;> cases v[i] <;> cases m[i] <;> cases low[i] <;> rfl

/-- Settles O23: each rewrite writes its own window, over what the ones before it left. -/
theorem substitutionReplacesJudgedBitsAlone : Obligations.SubstitutionReplacesJudgedBitsAlone := by
  refine ⟨State.rewrites_ascending, fun _ _ => rfl, fun d cells k value rest => ⟨fun x hx => ?_, fun hx => ?_⟩, ?_, ?_⟩
  · rw [rewriteSlots, hx]
  · rw [rewriteSlots, hx]
  · intro d cells k value before x hwf hd hlength hx hwindow after low
    have hafter : after = rewriteSample d.desc x value (rewriteSlots d before cells) := by
      simp only [after, rewriteSlots_append, rewriteSlots, hx]
    have hwf' : Memory.wf (rewriteSlots d before cells) = true := (rewriteSlots_writesOnly d before cells hwf).left
    rw [hafter, (rewriteSample_writes value hwf' hd hlength hwindow).1]
    exact judged_bits _ _ _ _
  · intro cells d x value hwf hd hlength hwindow after kept low
    exact rewriteSample_writes value hwf hd hlength hwindow

/-! ## The running checks -/

/-- The running check of a frame in progress is the check register after its bytes. -/
def Reception.Checked (cells : List Host.Cell) (p : Port) (f : Reception) : Prop :=
  f.check = (frameBytes cells (f.descriptor p)).foldl crcByte crcStart

theorem Reception.Checked.congr {cells cells' : List Host.Cell} {p : Port} {f : Reception} (h : f.Checked cells p)
    (hread : ∀ i a, frameAddress (f.descriptor p) i = some a → readCells cells' a = readCells cells a) :
    f.Checked cells' p := by
  have hbytes : frameByte cells' (f.descriptor p) = frameByte cells (f.descriptor p) :=
    funext fun i => frameByte_congr (hread i)
  rwa [Reception.Checked, frameBytes, hbytes]

theorem Reception.checked_start (cells : List Host.Cell) (p : Port) : Reception.start.Checked cells p := rfl

section

variable {s : State}

theorem BlocksConserved.nodup (h : BlocksConserved s) :
    (s.store.free ++ s.heldFrames.flatMap (·.blocks)).Nodup := h.nodup_iff.2 (List.nodup_finRange 96)

/-- A free block is in no frame. -/
theorem BlocksConserved.free_not_mem (h : BlocksConserved s) {b : BlockId} (hb : b ∈ s.store.free) {d : Descriptor}
    (hd : d ∈ s.heldFrames) : b ∉ d.blocks := fun hmem =>
  (List.nodup_append.1 h.nodup).2.2 b hb b (List.mem_flatMap.2 ⟨d, hd, hmem⟩) rfl

/-- A held frame's blocks are distinct. -/
theorem BlocksConserved.blocks_nodup (h : BlocksConserved s) {d : Descriptor} (hd : d ∈ s.heldFrames) : d.blocks.Nodup :=
  (List.nodup_flatMap.1 (List.nodup_append.1 h.nodup).2.1).1 d hd

/-- The frame in progress at a receiver and the frame in hand of the engine share no block. -/
theorem BlocksConserved.reception_disjoint (h : BlocksConserved s) {p : Port} {f : Reception}
    (hf : s.receivers.get p = .receiving f) {d : Descriptor} (hd : d ∈ engineFrames s.engine.phase) :
    ∀ b ∈ (f.descriptor p).blocks, b ∉ d.blocks := by
  have hreceiving : f.descriptor p ∈ receivingFrames .a s.receivers.a ++ receivingFrames .b s.receivers.b := by
    cases p <;> simp_all [receivingFrames]
  have hsublist : [f.descriptor p, d].Sublist s.heldFrames := by
    have hrest := (List.singleton_sublist.2 hreceiving).append (List.singleton_sublist.2
      (List.mem_append_right (s.store.ready.a ++ s.store.ready.b) (List.mem_append_left
        (s.store.forward.a.map (·.desc) ++ s.store.forward.b.map (·.desc) ++ sendingFrames s.transmitters.a ++
          sendingFrames s.transmitters.b ++ s.agent.inbox.a ++ s.agent.inbox.b ++ s.agent.requests.map (·.frame) ++
          s.notice.inbox.a ++ s.notice.inbox.b) hd)))
    simpa only [State.heldFrames, List.append_assoc, List.singleton_append] using hrest
  have hnodup := ((List.nodup_append.1 h.nodup).2.1).sublist (hsublist.flatMap fun d => d.blocks)
  simp only [List.flatMap_cons, List.flatMap_nil, List.append_nil] at hnodup
  exact fun b hb hb' => (List.nodup_append.1 hnodup).2.2 b hb b hb' rfl

/-- The bytes of a granted claim go into the claimed block (R7). -/
theorem frameAddress_claimed {blocks : List BlockId} {b : BlockId} {p : Port} {count n i : Nat} {check : Word}
    (hpos : atClaimPosition count = true) (hblocks : blocks.length = blocksFor count)
    (hlow : count ≤ i) (hhigh : i < count + Config.blockSize) :
    frameAddress (Reception.descriptor ⟨n, blocks ++ [b], check⟩ p) i =
      some (Config.blockSize * b.val + i % Config.blockSize) := by
  have hindex : i / Config.blockSize = blocks.length := by
    simp only [atClaimPosition, Bool.and_eq_true, decide_eq_true_eq] at hpos
    simp only [hblocks, blocksFor, Config.blockSize] at *
    omega
  rw [frameAddress, Reception.descriptor, hindex]
  simp

/-- A granted claim carries the running check on over the bytes it stores. -/
theorem Reception.Checked.grantClaim (hwf : BytesCanonical s) (hconserved : BlocksConserved s) (hsized : FramesSized s)
    {p : Port} {f : Reception} (hf : s.receivers.get p = .receiving f) (hpos : atClaimPosition f.count = true)
    (hgranted : s.store.claimGranted p = true) (pick : BlockId) (bytes : List Byte)
    (h : f.Checked s.store.bytes p) (f' : Reception)
    (hf' : (s.grantClaim p f pick bytes).receivers.get p = .receiving f') :
    f'.Checked (s.grantClaim p f pick bytes).store.bytes p := by
  have hmem := State.receiving_mem_heldFrames hf
  have hblocks : f.blocks.length = blocksFor f.count := (hsized _ hmem).2
  have hfresh : grantedBlock s.store.free pick ∉ f.blocks :=
    hconserved.free_not_mem (grantedBlock_mem hgranted pick) hmem
  generalize hb : grantedBlock s.store.free pick = b at hfresh
  generalize htaken : blockBytes f.count bytes = taken
  have hreception : f' = ⟨f.count + taken.length, f.blocks ++ [b], taken.foldl crcByte f.check⟩ := by
    have e := hf'
    simp only [State.grantClaim, hb, htaken, State.setReceiver_receivers, PerPort.get_set_same, Receiver.receiving.injEq] at e
    exact e.symm
  have hcells : (s.grantClaim p f pick bytes).store.bytes =
      writeFrameBytes (f'.descriptor p) f.count taken s.store.bytes := by
    rw [hreception]
    simp only [State.grantClaim, hb, htaken, State.setReceiver_store]
  have hlength : taken.length ≤ Config.blockSize := by
    rw [← htaken, blockBytes_length]
    omega
  have hnodup : (f'.descriptor p).blocks.Nodup := by
    rw [hreception]
    exact List.nodup_append.2 ⟨hconserved.blocks_nodup hmem, List.nodup_singleton b,
      fun x hx y hy e => hfresh (by rw [List.mem_singleton.1 hy] at e; exact e ▸ hx)⟩
  have hsize : (f'.descriptor p).blocks.length = f.blocks.length + 1 := by simp [hreception, Reception.descriptor]
  have hcount : f.count / Config.blockSize = f.blocks.length ∧ f.count % Config.blockSize = 0 := by
    simp only [atClaimPosition, Bool.and_eq_true, decide_eq_true_eq] at hpos
    simp only [hblocks, blocksFor, Config.blockSize] at *
    omega
  have hold : ∀ i < f.count, frameByte (s.grantClaim p f pick bytes).store.bytes (f'.descriptor p) i =
      frameByte s.store.bytes (f.descriptor p) i := by
    intro i hi
    have hindex : i / Config.blockSize < f.blocks.length := by
      rw [← hcount.1]
      simp only [Config.blockSize] at hcount ⊢
      omega
    rw [hcells, frameByte_writeFrameBytes_of_outside hwf hnodup (.inl hi)]
    have haddress : frameAddress (f'.descriptor p) i = frameAddress (f.descriptor p) i := by
      simp [frameAddress, hreception, Reception.descriptor, List.getElem?_append_left hindex]
    rw [frameByte, haddress, frameByte]
  have hnew : ∀ j < taken.length, frameByte (s.grantClaim p f pick bytes).store.bytes (f'.descriptor p) (f.count + j) =
      byteAt taken j := by
    intro j hj
    rw [hcells]
    refine frameByte_writeFrameBytes_of_inside hnodup hwf hj ?_
    rw [hsize, ← hcount.1]
    simp only [Config.blockSize] at hlength hcount ⊢
    omega
  have hbytes : frameBytes (s.grantClaim p f pick bytes).store.bytes (f'.descriptor p) =
      frameBytes s.store.bytes (f.descriptor p) ++ taken := by
    have htotal : (f'.descriptor p).total = f.count + taken.length := by rw [hreception]; rfl
    rw [frameBytes, htotal, List.range_add, List.map_append, List.map_map]
    congr 1
    · exact List.map_congr_left fun i hi => hold i (List.mem_range.1 hi)
    · refine (List.map_congr_left fun j hj => hnew j (List.mem_range.1 hj)).trans ?_
      exact List.ext_getElem (by simp) fun j _ hj => by simp [byteAt, hj]
  rw [Reception.Checked, hbytes, List.foldl_append, ← h, hreception]

/-- A granted claim leaves the other receiver's bytes. -/
theorem Reception.Checked.otherClaim (hwf : BytesCanonical s) (hconserved : BlocksConserved s) (hsized : FramesSized s)
    {p q : Port} {f g : Reception} (hf : s.receivers.get p = .receiving f) (hg : s.receivers.get q = .receiving g)
    (hpos : atClaimPosition f.count = true) (hgranted : s.store.claimGranted p = true) (pick : BlockId)
    (bytes : List Byte) (h : g.Checked s.store.bytes q) : g.Checked (s.grantClaim p f pick bytes).store.bytes q := by
  have hblocks : f.blocks.length = blocksFor f.count := (hsized _ (State.receiving_mem_heldFrames hf)).2
  have hfresh : grantedBlock s.store.free pick ∉ g.blocks :=
    hconserved.free_not_mem (grantedBlock_mem hgranted pick) (State.receiving_mem_heldFrames hg)
  refine h.congr fun i a ha => ?_
  refine read_writeFrameBytes_of_outside _ a _ _ hwf fun j hlow hhigh hj => ?_
  have hlength := blockBytes_length f.count bytes
  rw [frameAddress_claimed hpos hblocks hlow (by omega)] at hj
  obtain ⟨b, hb, haddress⟩ := frameAddress_eq_some_iff.1 ha
  obtain ⟨rfl, -⟩ := address_eq_iff.1 (haddress.trans (Option.some.inj hj).symm)
  exact hfresh (List.mem_of_getElem? hb)

end

theorem receptionsChecked_iff (s : State) :
    ReceptionsChecked s ↔ ∀ p f, s.receivers.get p = .receiving f → f.Checked s.store.bytes p := Iff.rfl

/-- Where the bytes stay, a receiver may start a frame or leave RECEIVING. -/
theorem ReceptionsChecked.setReceiver {s t : State} (h : ReceptionsChecked s) {p : Port} {r : Receiver}
    (hr : ∀ f, r = .receiving f → f = .start) (hbytes : t.store.bytes = s.store.bytes)
    (hreceivers : t.receivers = s.receivers.set p r) : ReceptionsChecked t := by
  rw [receptionsChecked_iff] at h ⊢
  intro q f hf
  rw [hbytes]
  rw [hreceivers] at hf
  by_cases hq : q = p
  · subst hq
    rw [PerPort.get_set_same] at hf
    rw [hr f hf]
    exact Reception.checked_start _ q
  · rw [PerPort.get_set_of_ne _ _ hq] at hf
    exact h q f hf

theorem ReceptionsChecked.congr {s t : State} (h : ReceptionsChecked s) (hbytes : t.store.bytes = s.store.bytes)
    (hreceivers : t.receivers = s.receivers) : ReceptionsChecked t := by
  rw [receptionsChecked_iff] at h ⊢
  rwa [hbytes, hreceivers]

theorem State.receiverTakesDown_receivers (s : State) (p : Port) :
    (s.receiverTakesDown p).receivers = s.receivers ∨ (s.receiverTakesDown p).receivers = s.receivers.set p .down := by
  simp only [State.receiverTakesDown]
  split
  · split <;> exact .inr rfl
  · exact .inl rfl

theorem ReceptionsChecked.receiverTakesDown {s : State} (h : ReceptionsChecked s) (p : Port) :
    ReceptionsChecked (s.receiverTakesDown p) := by
  have hbytes := (s.receiverTakesDown_within p) .bytes rfl
  obtain hsame | hdown := s.receiverTakesDown_receivers p
  · exact h.congr hbytes hsame
  · exact h.setReceiver (r := .down) nofun hbytes hdown

theorem State.allTakeDown_receivers (s : State) (p : Port) :
    (s.allTakeDown p).receivers = (s.receiverTakesDown p).receivers :=
  (((State.noticeTakesDown_within _ p) .receivers rfl).trans ((State.agentTakesDown_within _ p) .receivers rfl)).trans
    (((State.storeTakesDown_within _ p) .receivers rfl).trans
      ((State.transmitterTakesDown_within (s.receiverTakesDown p) p) .receivers rfl))

theorem exec_keeps_receptionsChecked {c : Instr} {s t : State}
    (hpremise : BytesCanonical s ∧ BlocksConserved s ∧ FramesSized s) (hs : ReceptionsChecked s)
    (h : exec c s = .next t) : ReceptionsChecked t := by
  obtain ⟨hwf, hconserved, hsized⟩ := hpremise
  cases c with
  | powerOnReset =>
    cases h
    rintro (_ | _) f ⟨⟩
  | restart =>
    obtain ⟨r, rest, -, -, -, -, rfl⟩ | hrefused := execRestart_cases h
    · have hno : ∀ (x : Receiver) f, x.restart ≠ .receiving f := fun x f => by cases x <;> nofun
      intro p f hf
      rw [State.respond_receivers] at hf
      cases p
      · exact absurd hf (hno _ f)
      · exact absurd hf (hno _ f)
    · have hwithin := hrefused.within (by decide)
      exact hs.congr (hwithin .bytes rfl) (hwithin .receivers rfl)
  | linkChangeUp p =>
    have hbytes := exec_within h .bytes rfl
    revert h
    simp only [exec, execLinkChangeUp]
    split <;> rintro ⟨⟩
    · exact hs
    · have hdown : (s.allTakeDown p).receivers = (s.receiverTakesDown p).receivers := s.allTakeDown_receivers p
      exact (hs.receiverTakesDown p).setReceiver (r := .idle) nofun
        (hbytes.trans ((s.receiverTakesDown_within p) .bytes rfl).symm) (congrArg (·.set p .idle) hdown)
  | receiverLinkDown p =>
    cases h
    exact hs.receiverTakesDown p
  | frameStart p =>
    revert h
    simp only [exec, execFrameStart]
    split <;> rintro ⟨⟩
    · exact hs.setReceiver (r := .receiving .start) (fun f hf => (Receiver.receiving.inj hf).symm) rfl rfl
    · exact hs
  | frameEndInDiscarding p =>
    revert h
    simp only [exec, execFrameEndInDiscarding]
    split <;> rintro ⟨⟩
    · exact hs.setReceiver (r := .idle) nofun rfl rfl
    · exact hs
  | oversize p =>
    revert h
    simp only [exec, execOversize]
    (repeat' split) <;> rintro ⟨⟩
    · exact hs.setReceiver (r := .discarding) nofun rfl rfl
    · exact hs
    · exact hs
  | frameEnd p aborted =>
    have hbytes := exec_within h .bytes rfl
    revert h
    simp only [exec, execFrameEnd]
    (repeat' split) <;> rintro ⟨⟩
    · exact hs.setReceiver (r := .idle) nofun rfl rfl
    · exact hs.setReceiver (r := .idle) nofun hbytes ((State.route_within _ _) .receivers rfl)
    · exact hs
  | blockClaim p pick bytes =>
    revert h
    simp only [exec, execBlockClaim]
    split
    · rename_i f b bs hf
      split
      · rename_i hpos
        split <;> rintro ⟨⟩
        · rename_i hgranted
          rw [receptionsChecked_iff] at hs ⊢
          intro q g hg
          by_cases hq : q = p
          · subst hq
            exact Reception.Checked.grantClaim hwf hconserved hsized hf hpos hgranted pick (b :: bs) (hs q f hf) g hg
          · have hsame : s.receivers.get q = .receiving g := by
              rw [← hg]
              exact (PerPort.get_set_of_ne _ _ hq).symm
            exact Reception.Checked.otherClaim hwf hconserved hsized hf hsame hpos hgranted pick (b :: bs) (hs q g hsame)
        · exact hs.setReceiver (r := .discarding) nofun rfl rfl
      · rintro ⟨⟩
        exact hs
    · rintro ⟨⟩
      exact hs
  | monitorTakeFrame =>
    have hreceivers := exec_within h .receivers rfl
    revert h
    simp only [exec, execMonitorTakeFrame]
    split <;> rintro ⟨⟩
    · rename_i d x n hholding
      rw [receptionsChecked_iff] at hs ⊢
      intro q g hg
      rw [hreceivers] at hg
      have hwrites := decideFrame_writesOnly (s.monitorsTake d) d
      rw [State.monitorsTake_store_bytes] at hwrites
      have hdisjoint := hconserved.reception_disjoint hg (d := d.desc) (by rw [hholding]; exact List.mem_singleton_self _)
      exact (hs q g hg).congr fun i a ha => (hwrites hwf).2 a (frameAddress_ne_of_disjoint hdisjoint ha)
    · exact hs
  | _ => exact hs.congr (exec_within h .bytes rfl) (exec_within h .receivers rfl)

/-- Settles O6: a claim stores the bytes it checks, and other writes go to blocks of other frames. -/
theorem runningChecksStayTrue : Obligations.RunningChecksStayTrue := fun s t hwf hconserved hsized hs h =>
  step_keeps (premise := fun s => BytesCanonical s ∧ BlocksConserved s ∧ FramesSized s) (fun _ _ => id) (fun _ _ => id)
    (fun _ _ _ => exec_keeps_receptionsChecked) s t ⟨hwf, hconserved, hsized⟩ hs h

end Sys2Proof.Machine
end

section
/-! PROOFS. Links, receivers and transmitters, and the owners of what is sent (R4, R6, R13..R15, R143, R165, R166). -/

namespace Sys2Proof.Machine

set_option Elab.async false

/-! ## What the changes to DOWN leave of the link states -/

section

variable (s : State) (p : Port)

theorem State.receiverTakesDown_link : (s.receiverTakesDown p).link =
    s.link.set p { s.link.get p with down := { (s.link.get p).down with receiver := false } } := by
  simp only [State.receiverTakesDown]
  split
  · split <;> rfl
  · rename_i hflag
    rw [← Bool.eq_false_of_not_eq_true hflag]
    exact (PerPort.set_get _ _).symm

theorem State.transmitterTakesDown_link : (s.transmitterTakesDown p).link =
    s.link.set p { s.link.get p with down := { (s.link.get p).down with transmitter := false } } := by
  simp only [State.transmitterTakesDown]
  split
  · split
    · rename_i f _
      cases f <;> rfl
    · rfl
  · rename_i hflag
    rw [← Bool.eq_false_of_not_eq_true hflag]
    exact (PerPort.set_get _ _).symm

theorem State.storeTakesDown_link : (s.storeTakesDown p).link =
    s.link.set p { s.link.get p with down := { (s.link.get p).down with frameStore := false } } := by
  simp only [State.storeTakesDown]
  split
  · rfl
  · rename_i hflag
    rw [← Bool.eq_false_of_not_eq_true hflag]
    exact (PerPort.set_get _ _).symm

theorem State.agentTakesDown_link : (s.agentTakesDown p).link =
    s.link.set p { s.link.get p with down := { (s.link.get p).down with agent := false } } := by
  simp only [State.agentTakesDown]
  split
  · rfl
  · rename_i hflag
    rw [← Bool.eq_false_of_not_eq_true hflag]
    exact (PerPort.set_get _ _).symm

theorem State.noticeTakesDown_link : (s.noticeTakesDown p).link =
    s.link.set p { s.link.get p with down := { (s.link.get p).down with noticeSender := false } } := by
  simp only [State.noticeTakesDown]
  split
  · split <;> rfl
  · rename_i hflag
    rw [← Bool.eq_false_of_not_eq_true hflag]
    exact (PerPort.set_get _ _).symm

theorem State.allTakeDown_link : (s.allTakeDown p).link = s.link.set p { s.link.get p with down := .none } := by
  simp only [State.allTakeDown, State.receiverTakesDown_link, State.transmitterTakesDown_link, State.storeTakesDown_link,
    State.agentTakesDown_link, State.noticeTakesDown_link, PerPort.get_set_same, PerPort.set_set, DownEvents.none]

end

/-! ## Receivers and transmitters follow their links -/

/-- Port `p` in `LinksFollowed`. -/
def LinkFollowed (l : LinkState) (r : Receiver) (x : Transmitter) : Prop :=
  (r = .down ↔ l.recorded = .down ∧ l.down.receiver = false) ∧
    (x = .down ↔ l.recorded = .down ∧ l.down.transmitter = false) ∧ (l.recorded = .up → l.down = .none)

theorem linksFollowed_iff (s : State) :
    LinksFollowed s ↔ ∀ p, LinkFollowed (s.link.get p) (s.receivers.get p) (s.transmitters.get p) := Iff.rfl

/-- Neither a link state nor the DOWN of a receiver or transmitter changes. -/
theorem LinksFollowed.congr {s t : State} (h : LinksFollowed s) (hlink : t.link = s.link)
    (hreceivers : ∀ p, t.receivers.get p = .down ↔ s.receivers.get p = .down)
    (htransmitters : ∀ p, t.transmitters.get p = .down ↔ s.transmitters.get p = .down) : LinksFollowed t := fun p => by
  rw [hlink, hreceivers, htransmitters]
  exact h p

/-- A change of one port's states. -/
theorem LinksFollowed.set {s t : State} (h : LinksFollowed s) {p : Port} {l : LinkState} {r : Receiver} {x : Transmitter}
    (hport : LinkFollowed l r x) (hlink : t.link = s.link.set p l) (hreceivers : t.receivers = s.receivers.set p r)
    (htransmitters : t.transmitters = s.transmitters.set p x) : LinksFollowed t := by
  refine (linksFollowed_iff t).2 fun q => ?_
  rw [hlink, hreceivers, htransmitters]
  by_cases hq : q = p
  · subst hq
    simpa only [PerPort.get_set_same] using hport
  · rw [PerPort.get_set_of_ne _ _ hq, PerPort.get_set_of_ne _ _ hq, PerPort.get_set_of_ne _ _ hq]
    exact h q

theorem PerPort.get_set_eq_iff {α : Type} {x : PerPort α} {p : Port} {v w : α} (hv : v = w ↔ x.get p = w) (q : Port) :
    (x.set p v).get q = w ↔ x.get q = w := by
  by_cases hq : q = p
  · subst hq
    rw [PerPort.get_set_same, hv]
  · rw [PerPort.get_set_of_ne _ _ hq]

/-- A change to DOWN not yet taken is one of a DOWN port. -/
theorem LinkFollowed.recorded_down {l : LinkState} {r : Receiver} {x : Transmitter} (h : LinkFollowed l r x)
    (hflag : l.down ≠ .none) : l.recorded = .down := by
  cases hrecorded : l.recorded with
  | down => rfl
  | up => exact absurd (h.2.2 hrecorded) hflag

theorem LinksFollowed.receiverTakesDown {s : State} (h : LinksFollowed s) (p : Port) :
    LinksFollowed (s.receiverTakesDown p) := by
  by_cases hflag : (s.link.get p).down.receiver = true
  · have hdown := LinkFollowed.recorded_down (h p) (fun e => by simp [e, DownEvents.none] at hflag)
    obtain ⟨-, htransmitter, -⟩ := h p
    have hreceivers : (s.receiverTakesDown p).receivers = s.receivers.set p .down := by
      simp only [State.receiverTakesDown, hflag, if_true]
      split <;> rfl
    have htransmitters : (s.receiverTakesDown p).transmitters = s.transmitters.set p (s.transmitters.get p) :=
      ((s.receiverTakesDown_within p) .transmitters rfl).trans (PerPort.set_get _ _).symm
    refine h.set ?_ (s.receiverTakesDown_link p) hreceivers htransmitters
    exact ⟨by simp [hdown], htransmitter, by simp [hdown]⟩
  · rw [State.receiverTakesDown, if_neg hflag]
    exact h

theorem State.transmitterTakesDown_transmitters {s : State} {p : Port} (hflag : (s.link.get p).down.transmitter = true) :
    (s.transmitterTakesDown p).transmitters = s.transmitters.set p .down := by
  simp only [State.transmitterTakesDown, hflag, if_true]
  split
  · rename_i f _
    cases f <;> rfl
  · rfl

theorem LinksFollowed.transmitterTakesDown {s : State} (h : LinksFollowed s) (p : Port) :
    LinksFollowed (s.transmitterTakesDown p) := by
  by_cases hflag : (s.link.get p).down.transmitter = true
  · have hdown := LinkFollowed.recorded_down (h p) (fun e => by simp [e, DownEvents.none] at hflag)
    obtain ⟨hreceiver, -, -⟩ := h p
    have hreceivers : (s.transmitterTakesDown p).receivers = s.receivers.set p (s.receivers.get p) :=
      ((s.transmitterTakesDown_within p) .receivers rfl).trans (PerPort.set_get _ _).symm
    refine h.set ?_ (s.transmitterTakesDown_link p) hreceivers (State.transmitterTakesDown_transmitters hflag)
    exact ⟨hreceiver, by simp [hdown], by simp [hdown]⟩
  · rw [State.transmitterTakesDown, if_neg hflag]
    exact h

/-- The other blocks' taking of a change to DOWN. -/
theorem LinksFollowed.otherTakesDown {s t : State} (h : LinksFollowed s) {p : Port} {e : DownEvents}
    (hlink : t.link = s.link.set p { s.link.get p with down := e }) (hreceiver : e.receiver = (s.link.get p).down.receiver)
    (htransmitter : e.transmitter = (s.link.get p).down.transmitter) (hnone : (s.link.get p).down = .none → e = .none)
    (hreceivers : t.receivers = s.receivers) (htransmitters : t.transmitters = s.transmitters) : LinksFollowed t := by
  obtain ⟨hr, hx, hup⟩ := h p
  refine h.set ?_ hlink (hreceivers.trans (PerPort.set_get _ p).symm) (htransmitters.trans (PerPort.set_get _ p).symm)
  refine ⟨?_, ?_, fun hrecorded => hnone (hup hrecorded)⟩
  · rw [hreceiver]
    exact hr
  · rw [htransmitter]
    exact hx

theorem LinksFollowed.storeTakesDown {s : State} (h : LinksFollowed s) (p : Port) : LinksFollowed (s.storeTakesDown p) :=
  h.otherTakesDown (s.storeTakesDown_link p) rfl rfl (fun e => by rw [e]; rfl)
    ((s.storeTakesDown_within p) .receivers rfl) ((s.storeTakesDown_within p) .transmitters rfl)

theorem LinksFollowed.agentTakesDown {s : State} (h : LinksFollowed s) (p : Port) : LinksFollowed (s.agentTakesDown p) :=
  h.otherTakesDown (s.agentTakesDown_link p) rfl rfl (fun e => by rw [e]; rfl)
    ((s.agentTakesDown_within p) .receivers rfl) ((s.agentTakesDown_within p) .transmitters rfl)

theorem LinksFollowed.noticeTakesDown {s : State} (h : LinksFollowed s) (p : Port) : LinksFollowed (s.noticeTakesDown p) :=
  h.otherTakesDown (s.noticeTakesDown_link p) rfl rfl (fun e => by rw [e]; rfl)
    ((s.noticeTakesDown_within p) .receivers rfl) ((s.noticeTakesDown_within p) .transmitters rfl)

theorem LinksFollowed.allTakeDown {s : State} (h : LinksFollowed s) (p : Port) : LinksFollowed (s.allTakeDown p) :=
  ((((h.receiverTakesDown p).transmitterTakesDown p).storeTakesDown p).agentTakesDown p).noticeTakesDown p

/-- A RESTART keeps a receiver's and a transmitter's DOWN, and brings a SENDING transmitter of a DOWN port there. -/
theorem LinkFollowed.restart {l : LinkState} {r : Receiver} {x : Transmitter} (h : LinkFollowed l r x) :
    LinkFollowed (l.restart x) r.restart (x.restart l.recorded) := by
  obtain ⟨hr, hx, hup⟩ := h
  refine ⟨?_, ?_, fun hrecorded => ?_⟩
  · have hsame : r.restart = .down ↔ r = .down := by cases r <;> simp [Receiver.restart]
    exact hsame.trans hr
  · cases x with
    | sending f => cases hrecorded : l.recorded <;> simp [LinkState.restart, Transmitter.restart, hrecorded, DownEvents.none]
    | down => cases hrecorded : l.recorded <;> simp_all [LinkState.restart, Transmitter.restart]
    | idle => cases hrecorded : l.recorded <;> simp_all [LinkState.restart, Transmitter.restart]
  · have hnone := hup hrecorded
    cases x <;> simp [LinkState.restart, hnone, DownEvents.none]

theorem State.grant_down {s : State} {p : Port} (hidle : s.transmitters.get p = .idle) (q : Port) :
    (s.grant p).transmitters.get q = .down ↔ s.transmitters.get q = .down := by
  have hset : ∀ f, (s.transmitters.set p (.sending f)).get q = .down ↔ s.transmitters.get q = .down := fun f =>
    PerPort.get_set_eq_iff (by simp [hidle]) q
  simp only [State.grant]
  (repeat' split)
  · exact hset _
  · exact hset _
  · exact hset _
  · exact hset _
  · exact hset _
  · exact hset _
  · exact Iff.rfl

/-- Where a receiver changes within its UP states. -/
theorem LinksFollowed.setReceiver {s t : State} (h : LinksFollowed s) {p : Port} {r : Receiver}
    (hr : r ≠ .down) (hold : s.receivers.get p ≠ .down) (hreceivers : t.receivers = s.receivers.set p r)
    (hlink : t.link = s.link) (htransmitters : t.transmitters = s.transmitters) : LinksFollowed t :=
  h.congr hlink (fun q => by rw [hreceivers]; exact PerPort.get_set_eq_iff (by simp [hr, hold]) q)
    (fun q => by rw [htransmitters])

theorem exec_keeps_linksFollowed {c : Instr} {s t : State} (hs : LinksFollowed s) (h : exec c s = .next t) :
    LinksFollowed t := by
  have hsame : Part.Same s t .link → Part.Same s t .receivers → Part.Same s t .transmitters → LinksFollowed t :=
    fun hl hr hx => hs.congr hl (fun q => by rw [show t.receivers = _ from hr]) fun q => by
      rw [show t.transmitters = _ from hx]
  have hwithin := exec_within h
  cases c with
  | powerOnReset =>
    cases h
    exact fun p => by cases p <;> simp [State.reset, PerPort.both, DownEvents.none]
  | restart =>
    obtain ⟨r, rest, -, -, -, -, rfl⟩ | hrefused := execRestart_cases h
    · refine LinksFollowed.congr (s := s.restartAll r) ?_ (State.respond_link ..) (fun q => by rw [State.respond_receivers])
        fun q => by rw [State.respond_transmitters]
      exact fun p => by
        cases p
        · exact LinkFollowed.restart (hs .a)
        · exact LinkFollowed.restart (hs .b)
    · have hw := hrefused.within (by decide)
      exact hsame (hw .link rfl) (hw .receivers rfl) (hw .transmitters rfl)
  | linkChangeUp p =>
    revert h
    simp only [exec, execLinkChangeUp]
    split <;> rintro ⟨⟩
    · exact hs
    · have hall : LinksFollowed (s.allTakeDown p) := hs.allTakeDown p
      exact hall.set (p := p) (by simp [LinkFollowed]) rfl rfl rfl
  | linkChangeDown p =>
    revert h
    simp only [exec, execLinkChangeDown]
    split <;> rintro ⟨⟩
    · exact hs
    · rename_i hup
      obtain ⟨hr, hx, -⟩ := hs p
      have hport : LinkFollowed ⟨.down, s.time, ⟨true, true, true, true, s.isNoticePort p⟩⟩ (s.receivers.get p)
          (s.transmitters.get p) := by simp [LinkFollowed, hr, hx, hup]
      exact hs.set hport rfl (PerPort.set_get _ p).symm (PerPort.set_get _ p).symm
  | receiverLinkDown p =>
    cases h
    exact hs.receiverTakesDown p
  | transmitterLinkDown p =>
    cases h
    exact hs.transmitterTakesDown p
  | flush p =>
    cases h
    exact hs.storeTakesDown p
  | slotFreeAtLinkDown p =>
    cases h
    exact hs.agentTakesDown p
  | noticePortDown p =>
    cases h
    exact hs.noticeTakesDown p
  | frameStart p =>
    revert h
    simp only [exec, execFrameStart]
    split <;> rintro ⟨⟩
    · exact hs.setReceiver (r := .receiving .start) nofun (by simp [*]) rfl rfl rfl
    · exact hs
  | frameEndInDiscarding p =>
    revert h
    simp only [exec, execFrameEndInDiscarding]
    split <;> rintro ⟨⟩
    · exact hs.setReceiver (r := .idle) nofun (by simp [*]) rfl rfl rfl
    · exact hs
  | oversize p =>
    revert h
    simp only [exec, execOversize]
    (repeat' split) <;> rintro ⟨⟩
    · exact hs.setReceiver (r := .discarding) nofun (by simp [*]) rfl rfl rfl
    · exact hs
    · exact hs
  | frameEnd p aborted =>
    revert h
    simp only [exec, execFrameEnd]
    (repeat' split) <;> rintro ⟨⟩
    · exact hs.setReceiver (r := .idle) nofun (by simp [*]) rfl rfl rfl
    · have hroute := State.route_within (s.setReceiver p .idle)
      exact hs.setReceiver (r := .idle) nofun (by simp [*]) (hroute _ .receivers rfl) (hroute _ .link rfl)
        (hroute _ .transmitters rfl)
    · exact hs
  | blockClaim p pick bytes =>
    revert h
    simp only [exec, execBlockClaim]
    (repeat' split) <;> rintro ⟨⟩
    · exact hs.setReceiver (r := .receiving _) nofun (by simp [*]) rfl rfl rfl
    · exact hs.setReceiver (r := .discarding) nofun (by simp [*]) rfl rfl rfl
    · exact hs
    · exact hs
  | egressGrant p =>
    revert h
    simp only [exec, execEgressGrant]
    split <;> rintro ⟨⟩
    · rename_i hidle _
      exact hs.congr (hwithin .link rfl) (fun q => by rw [show (s.grant p).receivers = _ from hwithin .receivers rfl])
        (State.grant_down hidle)
    · exact hs
  | endOfTransmission p =>
    revert h
    simp only [exec, execEndOfTransmission]
    split <;> rintro ⟨⟩
    · rename_i f hf
      have hset : ∀ q, (s.transmitters.set p .idle).get q = .down ↔ s.transmitters.get q = .down := fun q =>
        PerPort.get_set_eq_iff (by simp [hf]) q
      cases f <;> exact hs.congr rfl (fun _ => Iff.rfl) hset
    · exact hs
  | _ =>
    exact hsame (hwithin .link rfl) (hwithin .receivers rfl) (hwithin .transmitters rfl)

/-! ## Transmitters and the owners of what they send -/

/-- The responses of a list that are in transmission on port `p`. -/
def sentOn (responses : List HeldResponse) (p : Port) : List Originated :=
  (responses.filter fun r => decide (r.port = p) && r.inTransmission).map (·.frame)

/-- The response that a transmitter sends, if it sends one. -/
def sentBy : Transmitter → List Originated
  | .sending (.response f) => [f]
  | _ => []

/-- The notice sender's frame agrees with the transmitters. -/
def NoticeOwned (transmitters : PerPort Transmitter) (frame : Option NoticeFrame) : Prop :=
  ∀ p f, transmitters.get p = .sending (.notice f) ↔ frame = some ⟨f, p, true⟩

/-- Port `p`'s transmitter agrees with the agent's responses. -/
def ResponsesOwned (l : LinkState) (x : Transmitter) (responses : List HeldResponse) (p : Port) : Prop :=
  (l.recorded = .up ∨ l.down.transmitter = true ∧ l.down.agent = true → sentOn responses p = sentBy x) ∧
    (l.recorded = .down → l.down.agent = false → ∀ r ∈ responses, r.port ≠ p)

theorem transmittersOwned_iff (s : State) : TransmittersOwned s ↔ NoticeOwned s.transmitters s.notice.frame ∧
    ∀ p, ResponsesOwned (s.link.get p) (s.transmitters.get p) s.agent.responses p :=
  ⟨fun ⟨hnotice, hresponses, hfreed⟩ => ⟨hnotice, fun p => ⟨hresponses p, hfreed p⟩⟩,
    fun ⟨hnotice, hports⟩ => ⟨hnotice, fun p => (hports p).1, fun p => (hports p).2⟩⟩

/-! ### The notice sender's frame -/

section

variable {transmitters : PerPort Transmitter} {frame : Option NoticeFrame} (h : NoticeOwned transmitters frame)

include h

theorem NoticeOwned.set {p : Port} {x : Transmitter} (hold : ∀ f, transmitters.get p ≠ .sending (.notice f))
    (hnew : ∀ f, x ≠ .sending (.notice f)) : NoticeOwned (transmitters.set p x) frame := by
  intro q f
  rw [← h q f]
  exact PerPort.get_set_eq_iff (by simp [hold, hnew]) q

theorem NoticeOwned.discardWaiting : NoticeOwned transmitters (frame.filter fun f => f.inTransmission) := by
  intro p f
  rw [h p f, Option.filter_eq_some_iff]
  simp

/-- The transmitter of the frame in transmission ends it, and the notice sender no longer holds it. -/
theorem NoticeOwned.dropSent {p : Port} {x : Transmitter} (hnew : ∀ f, x ≠ .sending (.notice f)) :
    NoticeOwned (transmitters.set p x) (frame.filter fun f => !(decide (f.port = p) && f.inTransmission)) := by
  intro q f
  rw [Option.filter_eq_some_iff, ← h q f]
  by_cases hq : q = p
  · subst hq
    simp [hnew]
  · simp [PerPort.get_set_of_ne _ _ hq, hq]

/-- A waiting frame enters transmission on its port. -/
theorem NoticeOwned.grant {p : Port} {y : NoticeFrame} (hframe : frame = some y) (hport : y.port = p)
    (hwaiting : y.inTransmission = false) : NoticeOwned (transmitters.set p (.sending (.notice y.frame)))
      (some { y with inTransmission := true }) := by
  intro q f
  by_cases hq : q = p
  · subst hq
    obtain ⟨yframe, yport, ysent⟩ := y
    simp_all
  · rw [PerPort.get_set_of_ne _ _ hq, h q f, hframe]
    obtain ⟨yframe, yport, ysent⟩ := y
    dsimp only at hport hwaiting
    subst hport hwaiting
    simp [Ne.symm hq]

end

/-! ### The agent's responses -/

section

variable (l : List HeldResponse) {p q : Port}

theorem sentOn_append_waiting (q p : Port) (f : Originated) : sentOn (l ++ [⟨q, f, false⟩]) p = sentOn l p := by
  simp [sentOn]

theorem sentOn_grantFirst_same {f : Originated} (hnone : sentOn l p = [])
    (hfirst : (l.find? (waitsOn p)).map (·.frame) = some f) : sentOn (grantFirst p l) p = [f] := by
  induction l with
  | nil => simp at hfirst
  | cons r rest ih =>
    by_cases hr : waitsOn p r = true
    · rw [List.find?_cons_of_pos hr] at hfirst
      simp only [waitsOn, Bool.and_eq_true, decide_eq_true_eq, Bool.not_eq_true'] at hr
      simp_all [sentOn, grantFirst, waitsOn]
    · rw [List.find?_cons_of_neg hr] at hfirst
      have hhead : (decide (r.port = p) && r.inTransmission) = false := by
        by_contra hsent
        simp [sentOn, Bool.eq_true_of_not_eq_false hsent] at hnone
      have htail : sentOn rest p = [] := by simpa [sentOn, hhead] using hnone
      have hkept : sentOn (grantFirst p (r :: rest)) p = sentOn (grantFirst p rest) p := by
        rw [grantFirst, if_neg hr, sentOn, List.filter_cons_of_neg (by simp [hhead]), sentOn]
      rw [hkept, ih htail hfirst]

theorem sentOn_grantFirst_of_ne (hq : q ≠ p) : sentOn (grantFirst p l) q = sentOn l q := by
  induction l with
  | nil => rfl
  | cons r rest ih =>
    by_cases hr : waitsOn p r = true
    · have hport : r.port = p := by
        simp only [waitsOn, Bool.and_eq_true, decide_eq_true_eq] at hr
        exact hr.1
      simp [grantFirst, hr, sentOn, hport, Ne.symm hq]
    · rw [grantFirst, if_neg hr]
      simp only [sentOn, List.filter_cons] at ih ⊢
      split <;> simp [ih]

theorem port_of_mem_grantFirst {r : HeldResponse} (hr : r ∈ grantFirst p l) : ∃ r' ∈ l, r'.port = r.port := by
  induction l with
  | nil => cases hr
  | cons x rest ih =>
    rw [grantFirst] at hr
    split at hr
    · obtain rfl | hr := List.mem_cons.1 hr
      · exact ⟨x, List.mem_cons_self, rfl⟩
      · exact ⟨r, List.mem_cons_of_mem _ hr, rfl⟩
    · obtain rfl | hr := List.mem_cons.1 hr
      · exact ⟨r, List.mem_cons_self, rfl⟩
      · obtain ⟨r', hr', hport⟩ := ih hr
        exact ⟨r', List.mem_cons_of_mem _ hr', hport⟩

theorem sentOn_freeSent_same : sentOn (freeSent p l) p = (sentOn l p).tail := by
  induction l with
  | nil => rfl
  | cons r rest ih =>
    by_cases hr : r.port = p ∧ r.inTransmission = true
    · simp [freeSent, sentOn, hr.1, hr.2]
    · have hhead : ¬ (decide (r.port = p) && r.inTransmission) = true := by simpa using hr
      simpa only [freeSent, if_neg hr, sentOn, List.filter_cons, if_neg hhead] using ih

theorem sentOn_freeSent_of_ne (hq : q ≠ p) : sentOn (freeSent p l) q = sentOn l q := by
  induction l with
  | nil => rfl
  | cons r rest ih =>
    by_cases hr : r.port = p ∧ r.inTransmission = true
    · simp [freeSent, sentOn, hr.1, hr.2, Ne.symm hq]
    · rw [freeSent, if_neg hr]
      simp only [sentOn, List.filter_cons] at ih ⊢
      split <;> simp [ih]

theorem freeSent_sublist (p : Port) : (freeSent p l).Sublist l := by
  induction l with
  | nil => exact List.Sublist.refl _
  | cons r rest ih =>
    rw [freeSent]
    split
    · exact List.sublist_cons_self _ _
    · exact ih.cons_cons _

theorem sentOn_filter_of_ne (hq : q ≠ p) : sentOn (l.filter fun r => decide (r.port ≠ p)) q = sentOn l q := by
  simp only [sentOn, List.filter_filter]
  congr 1
  refine List.filter_congr fun r _ => ?_
  by_cases hr : r.port = q
  · simp [hr, hq]
  · simp [hr]

theorem sentOn_eq_nil (h : ∀ r ∈ l, r.port ≠ p) : sentOn l p = [] := by
  simp only [sentOn, List.map_eq_nil_iff, List.filter_eq_nil_iff]
  intro r hr
  simp [h r hr]

end

/-! ### A state's transmitters, notice sender and responses -/

/-- The responses of `t` are those of `s`, or one more waits for a port that is UP. -/
def ResponsesHeld (s t : State) : Prop :=
  t.agent.responses = s.agent.responses ∨
    ∃ p f, (s.link.get p).recorded = .up ∧ t.agent.responses = s.agent.responses ++ [⟨p, f, false⟩]

/-- The notice sender's frame in `t` is that of `s`, or a waiting one has been discarded. -/
def NoticeKept (s t : State) : Prop :=
  t.notice.frame = s.notice.frame ∨ t.notice.frame = s.notice.frame.filter fun f => f.inTransmission

theorem State.holdResponse_held (s : State) (p : Port) (f : Originated) : ResponsesHeld s (s.holdResponse p f) := by
  simp only [State.holdResponse]
  split
  · exact .inr ⟨p, f, ‹_›, rfl⟩
  · exact .inl rfl

theorem State.respond_held (s : State) (p : Port) (a : Byte) (q t : Half) (c : Byte) (u : Status) (b : List Byte) :
    ResponsesHeld s (s.respond p a q t c u b) :=
  (s.cacheResponse p a t _).holdResponse_held p _

theorem State.judgeArrival_held (s : State) (r : Request) : ResponsesHeld s (s.judgeArrival r) := by
  simp only [State.judgeArrival]
  (repeat' split)
  · exact .inl rfl
  · exact .inl rfl
  · exact (s.dropRequest r .notPermitted).respond_held _ _ _ _ _ _ _
  · exact .inl rfl
  · exact (s.dropRequest r .duplicate).holdResponse_held _ _
  · exact .inl rfl
  · exact .inl rfl
  · exact .inl rfl
  · exact .inl rfl

theorem ResponsesOwned.held {s t : State} (h : ∀ p, ResponsesOwned (s.link.get p) (s.transmitters.get p) s.agent.responses p)
    (hlink : t.link = s.link) (htransmitters : t.transmitters = s.transmitters) (hheld : ResponsesHeld s t) (p : Port) :
    ResponsesOwned (t.link.get p) (t.transmitters.get p) t.agent.responses p := by
  obtain ⟨hsent, hfreed⟩ := h p
  rw [hlink, htransmitters]
  obtain e | ⟨q, f, hup, e⟩ := hheld <;> rw [e]
  · exact h p
  · refine ⟨fun hcase => by rw [sentOn_append_waiting, hsent hcase], fun hdown hagent r hr => ?_⟩
    obtain hr | hr := List.mem_append.1 hr
    · exact hfreed hdown hagent r hr
    · cases List.mem_singleton.1 hr
      rintro rfl
      cases hup.symm.trans hdown

/-- Where no transmitter changes, no response leaves and no notice frame enters or leaves transmission. -/
theorem TransmittersOwned.quiet {s t : State} (h : TransmittersOwned s) (hlink : t.link = s.link)
    (htransmitters : t.transmitters = s.transmitters) (hnotice : NoticeKept s t) (hheld : ResponsesHeld s t) :
    TransmittersOwned t := by
  rw [transmittersOwned_iff] at h ⊢
  obtain ⟨hframe, hports⟩ := h
  refine ⟨?_, ResponsesOwned.held hports hlink htransmitters hheld⟩
  rw [htransmitters]
  obtain e | e := hnotice <;> rw [e]
  · exact hframe
  · exact hframe.discardWaiting

/-- Where one port's link state, transmitter and responses change. -/
theorem TransmittersOwned.set {s t : State} (h : TransmittersOwned s) {p : Port} {l : LinkState} {x : Transmitter}
    (hlink : t.link = s.link.set p l) (htransmitters : t.transmitters = s.transmitters.set p x)
    (hnotice : NoticeOwned (s.transmitters.set p x) t.notice.frame)
    (hport : ResponsesOwned l x t.agent.responses p)
    (hothers : ∀ q, q ≠ p → sentOn t.agent.responses q = sentOn s.agent.responses q)
    (hsub : ∀ r ∈ t.agent.responses, ∃ r' ∈ s.agent.responses, r'.port = r.port) : TransmittersOwned t := by
  rw [transmittersOwned_iff] at h ⊢
  obtain ⟨-, hports⟩ := h
  rw [hlink, htransmitters]
  refine ⟨hnotice, fun q => ?_⟩
  by_cases hq : q = p
  · subst hq
    simpa only [PerPort.get_set_same] using hport
  · rw [PerPort.get_set_of_ne _ _ hq, PerPort.get_set_of_ne _ _ hq]
    obtain ⟨hsent, hfreed⟩ := hports q
    refine ⟨fun hcase => by rw [hothers q hq, hsent hcase], fun hdown hagent r hr => ?_⟩
    obtain ⟨r', hr', hport'⟩ := hsub r hr
    exact hport' ▸ hfreed hdown hagent r' hr'

/-- The same where the responses stay. -/
theorem TransmittersOwned.setSame {s t : State} (h : TransmittersOwned s) {p : Port} {l : LinkState} {x : Transmitter}
    (hlink : t.link = s.link.set p l) (htransmitters : t.transmitters = s.transmitters.set p x)
    (hnotice : NoticeOwned (s.transmitters.set p x) t.notice.frame) (hresponses : t.agent.responses = s.agent.responses)
    (hport : ResponsesOwned l x s.agent.responses p) : TransmittersOwned t :=
  h.set hlink htransmitters hnotice (hresponses ▸ hport) (fun q _ => by rw [hresponses])
    fun r hr => ⟨r, hresponses ▸ hr, rfl⟩

/-! ### The changes to DOWN -/

theorem TransmittersOwned.notice_owned {s : State} (h : TransmittersOwned s) : NoticeOwned s.transmitters s.notice.frame :=
  ((transmittersOwned_iff s).1 h).1

theorem TransmittersOwned.responses_owned {s : State} (h : TransmittersOwned s) (p : Port) :
    ResponsesOwned (s.link.get p) (s.transmitters.get p) s.agent.responses p := ((transmittersOwned_iff s).1 h).2 p

/-- A block that is neither transmitter nor agent takes a change to DOWN. -/
theorem TransmittersOwned.otherTakesDown {s t : State} (h : TransmittersOwned s) {p : Port} {e : DownEvents}
    (hlink : t.link = s.link.set p { s.link.get p with down := e })
    (htransmitter : e.transmitter = (s.link.get p).down.transmitter) (hagent : e.agent = (s.link.get p).down.agent)
    (htransmitters : t.transmitters = s.transmitters) (hnotice : NoticeOwned s.transmitters t.notice.frame)
    (hresponses : t.agent.responses = s.agent.responses) : TransmittersOwned t := by
  refine h.setSame hlink (htransmitters.trans (PerPort.set_get _ p).symm) (by rwa [PerPort.set_get]) hresponses ?_
  have hport := h.responses_owned p
  simp only [ResponsesOwned, htransmitter, hagent] at hport ⊢
  exact hport

theorem TransmittersOwned.receiverTakesDown {s : State} (h : TransmittersOwned s) (p : Port) :
    TransmittersOwned (s.receiverTakesDown p) := by
  have hw := s.receiverTakesDown_within p
  refine h.otherTakesDown (s.receiverTakesDown_link p) rfl rfl (hw .transmitters rfl) ?_ (hw .responses rfl)
  rw [show (s.receiverTakesDown p).notice.frame = _ from hw .noticeFrame rfl]
  exact h.notice_owned

theorem TransmittersOwned.storeTakesDown {s : State} (h : TransmittersOwned s) (p : Port) :
    TransmittersOwned (s.storeTakesDown p) := by
  have hw := s.storeTakesDown_within p
  refine h.otherTakesDown (s.storeTakesDown_link p) rfl rfl (hw .transmitters rfl) ?_ (hw .responses rfl)
  rw [show (s.storeTakesDown p).notice.frame = _ from hw .noticeFrame rfl]
  exact h.notice_owned

theorem TransmittersOwned.noticeTakesDown {s : State} (h : TransmittersOwned s) (p : Port) :
    TransmittersOwned (s.noticeTakesDown p) := by
  have hw := s.noticeTakesDown_within p
  refine h.otherTakesDown (s.noticeTakesDown_link p) rfl rfl (hw .transmitters rfl) ?_ (hw .responses rfl)
  simp only [State.noticeTakesDown]
  (repeat' split)
  · exact h.notice_owned.discardWaiting
  · exact h.notice_owned
  · exact h.notice_owned

/-- The transmitter gives up the frame that it sends; the notice sender then holds no frame in transmission there. -/
theorem TransmittersOwned.transmitterTakesDown {s : State} (h : TransmittersOwned s) (hlinks : LinksFollowed s) (p : Port) :
    TransmittersOwned (s.transmitterTakesDown p) := by
  by_cases hflag : (s.link.get p).down.transmitter = true
  · have hdown := LinkFollowed.recorded_down (hlinks p) (fun e => by simp [e, DownEvents.none] at hflag)
    obtain ⟨-, hfreed⟩ := h.responses_owned p
    refine h.setSame (s.transmitterTakesDown_link p) (State.transmitterTakesDown_transmitters hflag) ?_
      ((s.transmitterTakesDown_within p) .responses rfl) ⟨by simp [hdown], hfreed⟩
    simp only [State.transmitterTakesDown, hflag, if_true]
    split
    · rename_i f hf
      cases f with
      | notice f => exact h.notice_owned.dropSent nofun
      | response f => exact h.notice_owned.set (by simp [hf]) nofun
      | forwarded d => exact h.notice_owned.set (by simp [hf]) nofun
    · rename_i hidle
      exact h.notice_owned.set (fun f hf => hidle _ hf) nofun
  · rw [State.transmitterTakesDown, if_neg hflag]
    exact h

/-- The agent frees the slots of the port. -/
theorem TransmittersOwned.agentTakesDown {s : State} (h : TransmittersOwned s) (hlinks : LinksFollowed s) (p : Port) :
    TransmittersOwned (s.agentTakesDown p) := by
  by_cases hflag : (s.link.get p).down.agent = true
  · have hdown := LinkFollowed.recorded_down (hlinks p) (fun e => by simp [e, DownEvents.none] at hflag)
    have hw := s.agentTakesDown_within p
    have hresponses : (s.agentTakesDown p).agent.responses = s.agent.responses.filter fun r => decide (r.port ≠ p) := by
      rw [State.agentTakesDown, if_pos hflag]
      rfl
    refine h.set (s.agentTakesDown_link p) (Eq.trans (hw .transmitters rfl) (PerPort.set_get _ p).symm) ?_ ?_ ?_ ?_
    · rw [PerPort.set_get, show (s.agentTakesDown p).notice.frame = _ from hw .noticeFrame rfl]
      exact h.notice_owned
    · rw [hresponses]
      exact ⟨by simp [hdown], fun _ _ r hr => by simpa using List.of_mem_filter hr⟩
    · intro q hq
      rw [hresponses, sentOn_filter_of_ne _ hq]
    · intro r hr
      rw [hresponses] at hr
      exact ⟨r, List.mem_of_mem_filter hr, rfl⟩
  · rw [State.agentTakesDown, if_neg hflag]
    exact h

theorem TransmittersOwned.allTakeDown {s : State} (h : TransmittersOwned s) (hlinks : LinksFollowed s) (p : Port) :
    TransmittersOwned (s.allTakeDown p) := by
  have hr := hlinks.receiverTakesDown p
  have hx := (hr.transmitterTakesDown p).storeTakesDown p
  exact ((((h.receiverTakesDown p).transmitterTakesDown hr p).storeTakesDown p).agentTakesDown hx p).noticeTakesDown p

/-! ### Grants and ends of transmission -/

theorem State.noticeRequester_eq_some {s : State} {p : Port} {f : Originated} (h : s.noticeRequester p = some f) :
    ∃ y, s.notice.frame = some y ∧ y.port = p ∧ y.inTransmission = false ∧ y.frame = f := by
  simp only [State.noticeRequester] at h
  split at h
  · rename_i y hy
    split at h <;> cases h
    obtain ⟨hport, hwaiting⟩ := ‹y.port = p ∧ _›
    exact ⟨y, hy, hport, hwaiting, rfl⟩
  · cases h

/-- A grant on an idle, UP port keeps what is sent and who holds it in step. -/
theorem TransmittersOwned.grant {s : State} (h : TransmittersOwned s) {p : Port} (hidle : s.transmitters.get p = .idle)
    (hup : (s.link.get p).recorded = .up) : TransmittersOwned (s.grant p) := by
  have hnone : sentOn s.agent.responses p = [] := by
    have hsent := (h.responses_owned p).1 (.inl hup)
    rwa [hidle] at hsent
  have hlink : s.link = s.link.set p (s.link.get p) := (PerPort.set_get _ p).symm
  have hnotSent : ∀ f, s.transmitters.get p ≠ .sending (.notice f) := by simp [hidle]
  have hport : ∀ {x : Transmitter} {l : List HeldResponse}, sentOn l p = sentBy x →
      ResponsesOwned (s.link.get p) x l p := fun hsent => ⟨fun _ => hsent, fun hdown => by cases hup.symm.trans hdown⟩
  have hresponse : ∀ f, s.responseRequester p = some f → TransmittersOwned (s.grantResponse p f) := by
    intro f hf
    refine h.set hlink rfl (h.notice_owned.set hnotSent nofun) (hport ?_) (fun q hq => ?_) fun r hr => ?_
    · exact sentOn_grantFirst_same _ hnone hf
    · exact sentOn_grantFirst_of_ne _ hq
    · exact port_of_mem_grantFirst _ hr
  have hnotice : ∀ f, s.noticeRequester p = some f → TransmittersOwned (s.grantNotice p f) := by
    intro f hf
    obtain ⟨y, hy, hyport, hwaiting, rfl⟩ := State.noticeRequester_eq_some hf
    refine h.setSame hlink rfl ?_ rfl (hport hnone)
    have hgranted := h.notice_owned.grant hy hyport hwaiting
    simpa only [State.grantNotice, State.setTransmitter, State.setRunCount, hy, Option.map_some] using hgranted
  have hforward : ∀ d rest, TransmittersOwned (s.grantForward p d rest) := fun d rest =>
    h.setSame hlink rfl (h.notice_owned.set hnotSent nofun) rfl (hport hnone)
  simp only [State.grant]
  (repeat' split)
  · exact hforward _ _
  · exact hresponse _ ‹_›
  · exact hnotice _ ‹_›
  · exact hforward _ _
  · exact hresponse _ ‹_›
  · exact hnotice _ ‹_›
  · exact h

theorem TransmittersOwned.endOfTransmission {s t : State} {p : Port} (h : TransmittersOwned s)
    (hexec : exec (.endOfTransmission p) s = .next t) : TransmittersOwned t := by
  revert hexec
  simp only [exec, execEndOfTransmission]
  split <;> rintro ⟨⟩
  · rename_i f hf
    have hlink : s.link = s.link.set p (s.link.get p) := (PerPort.set_get _ p).symm
    obtain ⟨hsent, hfreed⟩ := h.responses_owned p
    rw [hf] at hsent
    cases f with
    | response f =>
      refine h.set hlink rfl (h.notice_owned.set (by simp [hf]) nofun) ?_ ?_ ?_
      · refine ⟨fun hcase => ?_, fun hdown hagent r hr => hfreed hdown hagent r ((freeSent_sublist _ p).subset hr)⟩
        exact (sentOn_freeSent_same _).trans (congrArg List.tail (hsent hcase))
      · exact fun q hq => sentOn_freeSent_of_ne _ hq
      · exact fun r hr => ⟨r, (freeSent_sublist _ p).subset hr, rfl⟩
    | notice f => exact h.setSame hlink rfl (h.notice_owned.dropSent nofun) rfl ⟨hsent, hfreed⟩
    | forwarded d => exact h.setSame hlink rfl (h.notice_owned.set (by simp [hf]) nofun) rfl ⟨hsent, hfreed⟩
  · exact h

/-! ### Every command -/

theorem Effect.noticeKept {s t : State} {c : Instr} (h : Effect s c t) : NoticeKept s t := by
  have hsame : Part.noticeFrame.Same s t → NoticeKept s t := .inl
  cases h with
  | destination => exact .inr rfl
  | noDestination => exact .inr rfl
  | resume => exact .inr rfl
  | resumeEmpty => exact .inl rfl
  | stop => exact hsame ((State.makeTransition_within _ _ _) .noticeFrame rfl)
  | release => exact hsame ((State.makeTransition_within _ _ _) .noticeFrame rfl)
  | override => exact hsame ((State.recompute_within _ _ _) .noticeFrame rfl)
  | header => exact hsame ((State.setBank_within _ _ _) .noticeFrame rfl)
  | entries => exact hsame ((State.setBank_within _ _ _) .noticeFrame rfl)
  | _ => exact .inl rfl

theorem Effect.sameOwners {s t : State} {c : Instr} (hc : c ∈ requestCommands) (h : Effect s c t) :
    t.link = s.link ∧ t.transmitters = s.transmitters ∧ t.agent.responses = s.agent.responses := by
  have hresponses : t.agent.responses = s.agent.responses := by
    cases h with
    | stop => exact (State.makeTransition_within _ _ _) .responses rfl
    | release => exact (State.makeTransition_within _ _ _) .responses rfl
    | override => exact (State.recompute_within _ _ _) .responses rfl
    | header => exact (State.setBank_within _ _ _) .responses rfl
    | entries => exact (State.setBank_within _ _ _) .responses rfl
    | _ => rfl
  have hfootprint : ∀ c ∈ requestCommands,
      (footprint c).contains Part.link = false ∧ (footprint c).contains Part.transmitters = false := by decide
  obtain ⟨hlink, htransmitters⟩ := hfootprint c hc
  exact ⟨h.within .link hlink, h.within .transmitters htransmitters, hresponses⟩

theorem Executed.keeps_transmittersOwned {c : Instr} {s t : State} (hc : c ∈ requestCommands) (hs : TransmittersOwned s)
    (h : Executed c s t) : TransmittersOwned t := by
  obtain rfl | ⟨r, rest, -, -, ⟨t, u, results, heffect, -, rfl⟩ | ⟨t, haccept, rfl⟩⟩ := h
  · exact hs
  · obtain ⟨hlink, htransmitters, hresponses⟩ := heffect.sameOwners hc
    have ht : TransmittersOwned t := hs.quiet hlink htransmitters heffect.noticeKept (.inl hresponses)
    have hw := t.respond_within r.port r.source r.seq r.tag r.command u results
    exact ht.quiet (hw .link rfl) (hw .transmitters rfl) (.inl (hw .noticeFrame rfl)) (t.respond_held _ _ _ _ _ _ _)
  · cases haccept <;> exact hs.quiet rfl rfl (.inl rfl) (.inl rfl)

theorem exec_keeps_transmittersOwned {c : Instr} {s t : State} (hlinks : LinksFollowed s) (hs : TransmittersOwned s)
    (h : exec c s = .next t) : TransmittersOwned t := by
  by_cases hrequest : c ∈ requestCommands
  · obtain ⟨t', e, hexecuted⟩ := exec_executed hrequest s
    cases h.symm.trans e
    exact hexecuted.keeps_transmittersOwned hrequest hs
  have hwithin := exec_within h
  cases c with
  | powerOnReset =>
    cases h
    exact (transmittersOwned_iff _).2 ⟨fun p f => by cases p <;> simp [State.reset, PerPort.both, NoticeSender.powerOn],
      fun p => ⟨fun _ => by cases p <;> rfl, fun _ _ _ hr => by cases hr⟩⟩
  | restart =>
    obtain ⟨r, rest, -, -, -, -, rfl⟩ | hrefused := execRestart_cases h
    · have hw := (s.restartAll r).respond_within r.port r.source r.seq r.tag r.command .done []
      have hsending : ∀ (x : Transmitter) (l : Link) f, x.restart l ≠ .sending f := by
        rintro (_ | _ | f) (_ | _) <;> nofun
      have hset : TransmittersOwned (s.restartAll r) := by
        refine (transmittersOwned_iff _).2 ⟨fun p f => ?_, fun p => ⟨fun _ => ?_, fun _ _ _ hr => by cases hr⟩⟩
        · refine iff_of_false ?_ nofun
          cases p <;> exact hsending _ _ _
        · have hnone : ∀ x : Transmitter, (∀ f, x ≠ .sending f) → sentBy x = [] := by
            rintro (_ | _ | f) hx
            · rfl
            · rfl
            · exact absurd rfl (hx f)
          cases p <;> exact (hnone _ (hsending _ _)).symm
      exact hset.quiet (hw .link rfl) (hw .transmitters rfl) (.inl (hw .noticeFrame rfl)) (State.respond_held _ _ _ _ _ _ _ _)
    · exact hrefused.keeps_transmittersOwned (by decide) hs
  | linkChangeUp p =>
    revert h
    simp only [exec, execLinkChangeUp]
    split <;> rintro ⟨⟩
    · exact hs
    · rename_i hdown
      have hall := hs.allTakeDown hlinks p
      obtain ⟨-, hx, -⟩ := (hlinks.allTakeDown p) p
      obtain ⟨-, hfreed⟩ := hall.responses_owned p
      rw [State.allTakeDown_link, PerPort.get_set_same] at hx hfreed
      have hxdown : (s.allTakeDown p).transmitters.get p = .down := hx.2 ⟨hdown, rfl⟩
      refine hall.setSame rfl rfl (hall.notice_owned.set (by simp [hxdown]) nofun) rfl ⟨fun _ => ?_, nofun⟩
      exact sentOn_eq_nil _ (hfreed hdown rfl)
  | linkChangeDown p =>
    revert h
    simp only [exec, execLinkChangeDown]
    split <;> rintro ⟨⟩
    · exact hs
    · rename_i hup
      have hsent := (hs.responses_owned p).1 (.inl hup)
      refine hs.setSame (p := p) (x := s.transmitters.get p) rfl (PerPort.set_get _ p).symm ?_ rfl ⟨fun _ => hsent, nofun⟩
      rw [PerPort.set_get]
      exact hs.notice_owned
  | receiverLinkDown p =>
    cases h
    exact hs.receiverTakesDown p
  | transmitterLinkDown p =>
    cases h
    exact hs.transmitterTakesDown hlinks p
  | flush p =>
    cases h
    exact hs.storeTakesDown p
  | slotFreeAtLinkDown p =>
    cases h
    exact hs.agentTakesDown hlinks p
  | noticePortDown p =>
    cases h
    exact hs.noticeTakesDown p
  | egressGrant p =>
    revert h
    simp only [exec, execEgressGrant]
    split <;> rintro ⟨⟩
    · exact hs.grant ‹_› ‹_›
    · exact hs
  | endOfTransmission p => exact hs.endOfTransmission h
  | mgmtRequestArrival p =>
    refine hs.quiet (hwithin .link rfl) (hwithin .transmitters rfl) (.inl (hwithin .noticeFrame rfl)) ?_
    revert h
    simp only [exec, execMgmtRequestArrival]
    split <;> rintro ⟨⟩
    · exact .inl rfl
    · exact State.judgeArrival_held { s with agent := { s.agent with inbox := s.agent.inbox.set p _ } } _
  | retransmitTimerExpiry =>
    obtain rfl | ⟨-, ⟨-, rfl⟩ | ⟨-, rfl⟩⟩ := execRetransmitTimerExpiry_cases h
    · exact hs
    · exact hs.quiet rfl rfl (.inl rfl) (.inl rfl)
    · exact hs.quiet rfl rfl (.inr rfl) (.inl rfl)
  | noticeForming =>
    obtain rfl | ⟨dst, -, hframe, -, -, -, hnotice⟩ := execNoticeForming_cases h
    · exact hs
    refine (transmittersOwned_iff _).2 ⟨fun p f => ?_,
      ResponsesOwned.held hs.responses_owned (hwithin .link rfl) (hwithin .transmitters rfl) (.inl (hwithin .responses rfl))⟩
    rw [show t.transmitters = _ from hwithin .transmitters rfl, hs.notice_owned p f, hframe, hnotice, formNotice_notice]
    simp [State.noticeFor]
  | resultReport =>
    refine hs.quiet (hwithin .link rfl) (hwithin .transmitters rfl) (.inl (hwithin .noticeFrame rfl)) ?_
    revert h
    simp only [exec, execResultReport]
    split <;> rintro ⟨⟩
    · rename_i r reports q rest _ _
      simp only [State.respondReported]
      split
      · exact State.holdResponse_held (State.cacheResponse { s with
          tables := { s.tables with reports := reports }
          agent := { s.agent with pendingResults := rest } } q.port q.source q.tag _) q.port _
      · exact .inl rfl
    · exact .inl rfl
  | _ =>
    first
    | exact absurd (by decide) hrequest
    | exact hs.quiet (hwithin .link rfl) (hwithin .transmitters rfl) (.inl (hwithin .noticeFrame rfl))
        (.inl (hwithin .responses rfl))

/-- Settles O15: the receivers and transmitters follow their links by the cases of the link events, and what is sent
agrees with its owner by the cases of grants, ends of transmission and changes to DOWN. -/
theorem linksStayFollowed : Obligations.LinksStayFollowed :=
  ⟨step_keeps_alone (fun _ _ => id) fun _ _ _ => exec_keeps_linksFollowed,
    step_keeps (fun _ _ => id) (fun _ _ h => ⟨h.notice, h.responses, h.freed⟩) fun _ _ _ => exec_keeps_transmittersOwned⟩

end Sys2Proof.Machine
end

section
/-! PROOFS. The queues of the traffic path (R10, R11, R21, R22, R28, R30, R31): what a command does to each. -/

namespace Sys2Proof.Machine

set_option Elab.async false

/-! ## Ready lists and inboxes -/

/-- Each port's list has lost frames, kept its own, or gained one frame of its port at its tail, where there is room. -/
def PortsMoved (room : Nat → Prop) (x y : PerPort (List Descriptor)) : Prop :=
  ∀ p, (y.get p).Sublist (x.get p) ∨ ∃ d, d.ingress = p ∧ room (x.get p).length ∧ y.get p = x.get p ++ [d]

theorem PortsMoved.of_eq {room : Nat → Prop} {x y : PerPort (List Descriptor)} (h : y = x) : PortsMoved room x y :=
  fun _ => .inl (h ▸ List.Sublist.refl _)

theorem PortsMoved.empty (room : Nat → Prop) (x : PerPort (List Descriptor)) : PortsMoved room x (.both []) :=
  fun p => .inl (by cases p <;> exact List.nil_sublist _)

theorem PortsMoved.take (room : Nat → Prop) {x : PerPort (List Descriptor)} {p : Port} {d : Descriptor}
    {rest : List Descriptor} (h : x.get p = d :: rest) : PortsMoved room x (x.set p rest) := by
  intro q
  by_cases hq : q = p
  · subst hq
    rw [PerPort.get_set_same, h]
    exact .inl (List.sublist_cons_self _ _)
  · rw [PerPort.get_set_of_ne _ _ hq]
    exact .inl (List.Sublist.refl _)

theorem PortsMoved.join {room : Nat → Prop} {x : PerPort (List Descriptor)} {d : Descriptor}
    (h : room (x.get d.ingress).length) : PortsMoved room x (x.set d.ingress (x.get d.ingress ++ [d])) := by
  intro q
  by_cases hq : q = d.ingress
  · subst hq
    exact .inr ⟨d, rfl, h, PerPort.get_set_same ..⟩
  · rw [PerPort.get_set_of_ne _ _ hq]
    exact .inl (List.Sublist.refl _)

theorem PortsMoved.keeps_ingress {room : Nat → Prop} {x y : PerPort (List Descriptor)} (h : PortsMoved room x y)
    (hx : ∀ p, ∀ d ∈ x.get p, d.ingress = p) (p : Port) : ∀ d ∈ y.get p, d.ingress = p := by
  intro d hd
  obtain hsub | ⟨d', hport, -, e⟩ := h p
  · exact hx p d (hsub.subset hd)
  · rw [e] at hd
    obtain hd | hd := List.mem_append.1 hd
    · exact hx p d hd
    · exact List.mem_singleton.1 hd ▸ hport

theorem PortsMoved.keeps_length {n : Nat} {x y : PerPort (List Descriptor)} (h : PortsMoved (· < n) x y)
    (hx : ∀ p, (x.get p).length ≤ n) (p : Port) : (y.get p).length ≤ n := by
  obtain hsub | ⟨d, -, hroom, e⟩ := h p
  · exact hsub.length_le.trans (hx p)
  · rw [e, List.length_append]
    exact hroom

/-- What a routed frame does to the ready lists and the two inboxes (R10, R11). -/
theorem State.route_queues (s : State) (d : Descriptor) :
    PortsMoved (· < Config.readyCapacity) s.store.ready (s.route d).store.ready ∧
      PortsMoved (fun _ => True) s.agent.inbox (s.route d).agent.inbox ∧
      PortsMoved (fun _ => True) s.notice.inbox (s.route d).notice.inbox := by
  simp only [State.route, State.offerReady]
  (repeat' split)
  · exact ⟨.of_eq rfl, .join trivial, .of_eq rfl⟩
  · exact ⟨.of_eq rfl, .of_eq rfl, .join trivial⟩
  · exact ⟨.of_eq rfl, .of_eq rfl, .of_eq rfl⟩
  · exact ⟨.of_eq rfl, .of_eq rfl, .of_eq rfl⟩
  · exact ⟨.join (by omega), .of_eq rfl, .of_eq rfl⟩

/-- Where a RESTART is executed, the frame store, the inboxes and the run counts are as after a power-on reset. -/
theorem execRestart_emptied {s t : State} (h : exec .restart s = .next t) :
    (t.store.ready = .both [] ∧ t.store.forward = .both [] ∧ t.agent.inbox = .both [] ∧ t.notice.inbox = .both [] ∧
      t.runCount = .both 0) ∨ Executed .badCommand s t := by
  obtain ⟨r, rest, -, -, -, -, rfl⟩ | hrefused := execRestart_cases h
  · have hw := (s.restartAll r).respond_within r.port r.source r.seq r.tag r.command .done []
    exact .inl ⟨hw .ready rfl, hw .forward rfl, hw .inbox rfl, hw .noticeInbox rfl, hw .runCount rfl⟩
  · exact .inr hrefused

/-- What a command does to the ready lists and the two inboxes. -/
theorem exec_portsMoved {c : Instr} {s t : State} (h : exec c s = .next t) :
    PortsMoved (· < Config.readyCapacity) s.store.ready t.store.ready ∧
      PortsMoved (fun _ => True) s.agent.inbox t.agent.inbox ∧
      PortsMoved (fun _ => True) s.notice.inbox t.notice.inbox := by
  have hwithin := exec_within h
  have hfootprint : ∀ c ∈ requestCommands, (footprint c).contains Part.ready = false ∧
      (footprint c).contains Part.inbox = false ∧ (footprint c).contains Part.noticeInbox = false := by decide
  by_cases hrequest : c ∈ requestCommands
  · obtain ⟨hready, hinbox, hacks⟩ := hfootprint c hrequest
    exact ⟨.of_eq (hwithin .ready hready), .of_eq (hwithin .inbox hinbox), .of_eq (hwithin .noticeInbox hacks)⟩
  cases c with
  | powerOnReset =>
    cases h
    exact ⟨.empty _ _, .empty _ _, .empty _ _⟩
  | restart =>
    obtain ⟨hready, -, hinbox, hacks, -⟩ | hrefused := execRestart_emptied h
    · rw [hready, hinbox, hacks]
      exact ⟨.empty _ _, .empty _ _, .empty _ _⟩
    · have hw := hrefused.within (by decide)
      exact ⟨.of_eq (hw .ready rfl), .of_eq (hw .inbox rfl), .of_eq (hw .noticeInbox rfl)⟩
  | frameEnd p aborted =>
    revert h
    simp only [exec, execFrameEnd]
    (repeat' split) <;> rintro ⟨⟩
    · exact ⟨.of_eq rfl, .of_eq rfl, .of_eq rfl⟩
    · exact (s.setReceiver p .idle).route_queues _
    · exact ⟨.of_eq rfl, .of_eq rfl, .of_eq rfl⟩
  | mgmtRequestArrival p =>
    refine ⟨.of_eq (hwithin .ready rfl), ?_, .of_eq (hwithin .noticeInbox rfl)⟩
    revert h
    simp only [exec, execMgmtRequestArrival]
    split <;> rintro ⟨⟩
    · exact .of_eq rfl
    · rename_i d rest hq
      have hjudged := State.judgeArrival_within { s with agent := { s.agent with inbox := s.agent.inbox.set p rest } }
        (State.requestOf { s with agent := { s.agent with inbox := s.agent.inbox.set p rest } } d) .inbox rfl
      exact hjudged ▸ PortsMoved.take _ hq
  | noticeAck p =>
    refine ⟨.of_eq (hwithin .ready rfl), .of_eq (hwithin .inbox rfl), ?_⟩
    revert h
    simp only [exec, execNoticeAck]
    split <;> rintro ⟨⟩
    · exact .of_eq rfl
    · rename_i d rest hq
      have hread := State.readAck_within { s with notice := { s.notice with inbox := s.notice.inbox.set p rest } } d
        .noticeInbox rfl
      exact hread ▸ PortsMoved.take _ hq
  | frameTake =>
    refine ⟨?_, .of_eq (hwithin .inbox rfl), .of_eq (hwithin .noticeInbox rfl)⟩
    obtain e | ⟨p, d, rest, -, -, -, hready, ⟨-, e⟩ | ⟨-, e⟩⟩ := execFrameTake_cases s
    · cases h.symm.trans e
      exact .of_eq rfl
    · cases h.symm.trans e
      exact .take _ hready
    · cases h.symm.trans e
      have hcomplete := (s.takeHead p rest).completeWalk_within d (s.startWalk p) .ready rfl
      exact hcomplete ▸ PortsMoved.take _ hready
  | _ =>
    first
    | exact absurd (by decide) hrequest
    | exact ⟨.of_eq (hwithin .ready rfl), .of_eq (hwithin .inbox rfl), .of_eq (hwithin .noticeInbox rfl)⟩

/-! ## Forward queues -/

/-- The forward queue of port `p` has lost frames, kept its own, or gained one accepted frame of the opposite port at its
tail, where the port is UP and there is room. -/
def ForwardMoved (s t : State) : Prop :=
  ∀ p, (t.store.forward.get p).Sublist (s.store.forward.get p) ∨
    ∃ d, (s.link.get p).recorded = .up ∧ (s.store.forward.get p).length < Config.forwardCapacity ∧
      d.desc.ingress = opposite p ∧ d.verdict = .accept ∧ t.store.forward.get p = s.store.forward.get p ++ [d]

theorem ForwardMoved.of_eq {s t : State} (h : t.store.forward = s.store.forward) : ForwardMoved s t :=
  fun _ => .inl (h ▸ List.Sublist.refl _)

theorem ForwardMoved.empty {s t : State} (h : t.store.forward = .both []) : ForwardMoved s t :=
  fun p => .inl (by rw [h]; cases p <;> exact List.nil_sublist _)

theorem ForwardMoved.set {s t : State} {p : Port} {l : List Screened} (hl : l.Sublist (s.store.forward.get p))
    (h : t.store.forward = s.store.forward.set p l) : ForwardMoved s t := by
  intro q
  rw [h]
  by_cases hq : q = p
  · subst hq
    rw [PerPort.get_set_same]
    exact .inl hl
  · rw [PerPort.get_set_of_ne _ _ hq]
    exact .inl (List.Sublist.refl _)

theorem State.offer_forwardMoved (s : State) {d : Screened} (haccept : d.verdict = .accept) : ForwardMoved s (s.offer d) := by
  obtain ⟨-, e⟩ | ⟨-, -, e⟩ | ⟨hup, hroom, e⟩ := s.offer_cases d
  · rw [e]
    exact .of_eq rfl
  · rw [e]
    exact .of_eq rfl
  · rw [e]
    intro q
    by_cases hq : q = opposite d.desc.ingress
    · subst hq
      exact .inr ⟨d, hup, hroom, (opposite_opposite _).symm, haccept, PerPort.get_set_same ..⟩
    · exact .inl ((PerPort.get_set_of_ne s.store.forward _ hq).symm ▸ List.Sublist.refl _)

theorem State.decideFrame_forwardMoved (s : State) (d : Screened) : ForwardMoved s (s.decideFrame d) := by
  simp only [State.decideFrame]
  split
  · exact .of_eq rfl
  · rename_i haccept
    (repeat' split)
    · exact s.offer_forwardMoved haccept
    · exact ((s.markFrame d.desc markedFlag).count (.cls d.cls .marked) 1).offer_forwardMoved haccept
    · exact .of_eq rfl
    · exact State.offer_forwardMoved ((((s.setBytes (rewriteSlots d (s.rewrites d.cls) s.store.bytes)).markFrame d.desc
        (markedFlag ||| substitutedFlag)).count (.cls d.cls .marked) 1).count (.cls d.cls .substituted) 1) haccept
    · exact .of_eq rfl

theorem State.storeTakesDown_forward (s : State) (p : Port) (hflag : (s.link.get p).down.frameStore = true) :
    (s.storeTakesDown p).store.forward = s.store.forward.set p [] := by
  rw [State.storeTakesDown, if_pos hflag, FrameStore.flush, FrameStore.releaseAll_eq]
  rfl

theorem State.storeTakesDown_forwardMoved (s : State) (p : Port) : ForwardMoved s (s.storeTakesDown p) := by
  by_cases hflag : (s.link.get p).down.frameStore = true
  · exact .set (List.nil_sublist _) (s.storeTakesDown_forward p hflag)
  · rw [State.storeTakesDown, if_neg hflag]
    exact .of_eq rfl

theorem State.allTakeDown_forwardMoved (s : State) (p : Port) : ForwardMoved s (s.allTakeDown p) := by
  let t := (s.receiverTakesDown p).transmitterTakesDown p
  have hbefore : t.store.forward = s.store.forward :=
    Eq.trans ((s.receiverTakesDown p).transmitterTakesDown_within p .forward rfl) (s.receiverTakesDown_within p .forward rfl)
  have hafter : (s.allTakeDown p).store.forward = (t.storeTakesDown p).store.forward :=
    Eq.trans (State.noticeTakesDown_within _ p .forward rfl) (State.agentTakesDown_within _ p .forward rfl)
  intro q
  rw [hafter, ← hbefore]
  by_cases hflag : (t.link.get p).down.frameStore = true
  · rw [t.storeTakesDown_forward p hflag]
    by_cases hq : q = p
    · subst hq
      rw [PerPort.get_set_same]
      exact .inl (List.nil_sublist _)
    · rw [PerPort.get_set_of_ne _ _ hq]
      exact .inl (List.Sublist.refl _)
  · rw [State.storeTakesDown, if_neg hflag]
    exact .inl (List.Sublist.refl _)

theorem FrameStore.purge_forward_get (st : FrameStore) (c : ClassId) (p : Port) :
    (st.purge c).forward.get p = (st.forward.get p).filter fun d => !ofClass c d := by
  rw [FrameStore.purge, FrameStore.releaseAll_eq]
  cases p <;> rfl

theorem State.grant_forwardMoved (s : State) (p : Port) : ForwardMoved s (s.grant p) := by
  have hforward : ∀ d rest, s.store.forward.get p = d :: rest → ForwardMoved s (s.grantForward p d rest) :=
    fun d rest hq => .set (hq ▸ List.sublist_cons_self _ _) rfl
  simp only [State.grant]
  (repeat' split)
  · exact hforward _ _ ‹_›
  · exact .of_eq rfl
  · exact .of_eq rfl
  · exact hforward _ _ ‹_›
  · exact .of_eq rfl
  · exact .of_eq rfl
  · exact .of_eq rfl

/-- What a command does to the forward queues. -/
theorem exec_forwardMoved {c : Instr} {s t : State} (h : exec c s = .next t) : ForwardMoved s t := by
  have hwithin := exec_within h
  cases c with
  | powerOnReset =>
    cases h
    exact .empty rfl
  | restart =>
    obtain ⟨-, hforward, -⟩ | hrefused := execRestart_emptied h
    · exact .empty hforward
    · exact .of_eq (hrefused.within (by decide) .forward rfl)
  | linkChangeUp p =>
    revert h
    simp only [exec, execLinkChangeUp]
    split <;> rintro ⟨⟩
    · exact .of_eq rfl
    · exact s.allTakeDown_forwardMoved p
  | flush p =>
    cases h
    exact s.storeTakesDown_forwardMoved p
  | monitorTakeFrame =>
    revert h
    simp only [exec, execMonitorTakeFrame]
    split <;> rintro ⟨⟩
    · rename_i d _ _ _
      have hw := s.monitorsTake_within d
      have hmoved := (s.monitorsTake d).decideFrame_forwardMoved d
      intro q
      rw [← show (s.monitorsTake d).store.forward = _ from hw .forward rfl,
        ← show (s.monitorsTake d).link = _ from hw .link rfl]
      exact hmoved q
    · exact .of_eq rfl
  | purge c =>
    revert h
    simp only [exec, execPurge]
    split <;> rintro ⟨⟩
    · refine fun q => .inl ?_
      exact (s.store.purge_forward_get c q).symm ▸ List.filter_sublist
    · exact .of_eq rfl
  | egressGrant p =>
    revert h
    simp only [exec, execEgressGrant]
    split <;> rintro ⟨⟩
    · exact s.grant_forwardMoved p
    · exact .of_eq rfl
  | _ => exact .of_eq (hwithin .forward rfl)

/-! ## The flush of a DOWN port's queue -/

/-- A port that is DOWN with its flush taken was so before, or its forward queue is empty now. -/
def FlushedFrom (s t : State) : Prop :=
  ∀ p, (t.link.get p).recorded = .down → (t.link.get p).down.frameStore = false →
    ((s.link.get p).recorded = .down ∧ (s.link.get p).down.frameStore = false) ∨ t.store.forward.get p = []

theorem FlushedFrom.of_eq {s t : State} (h : t.link = s.link) : FlushedFrom s t :=
  fun _ hdown hflag => .inl (h ▸ ⟨hdown, hflag⟩)

theorem FlushedFrom.set {s t : State} {p : Port} {l : LinkState} (h : t.link = s.link.set p l)
    (hl : l.recorded = .down → l.down.frameStore = false →
      ((s.link.get p).recorded = .down ∧ (s.link.get p).down.frameStore = false) ∨ t.store.forward.get p = []) :
    FlushedFrom s t := by
  intro q
  rw [h]
  by_cases hq : q = p
  · subst hq
    rw [PerPort.get_set_same]
    exact hl
  · rw [PerPort.get_set_of_ne _ _ hq]
    exact fun hdown hflag => .inl ⟨hdown, hflag⟩

theorem exec_flushedFrom {c : Instr} {s t : State} (h : exec c s = .next t) : FlushedFrom s t := by
  have hwithin := exec_within h
  cases c with
  | powerOnReset =>
    cases h
    exact fun p _ _ => .inr (by cases p <;> rfl)
  | restart =>
    obtain ⟨-, hforward, -⟩ | hrefused := execRestart_emptied h
    · exact fun p _ _ => .inr (by rw [hforward]; cases p <;> rfl)
    · exact .of_eq (hrefused.within (by decide) .link rfl)
  | linkChangeUp p =>
    revert h
    simp only [exec, execLinkChangeUp]
    split <;> rintro ⟨⟩
    · exact .of_eq rfl
    · refine FlushedFrom.set (p := p) (l := ⟨.up, (s.allTakeDown p).time, .none⟩) ?_ nofun
      show (s.allTakeDown p).link.set p ⟨.up, (s.allTakeDown p).time, .none⟩ = _
      rw [State.allTakeDown_link, PerPort.set_set]
  | linkChangeDown p =>
    revert h
    simp only [exec, execLinkChangeDown]
    split <;> rintro ⟨⟩
    · exact .of_eq rfl
    · exact FlushedFrom.set (p := p) rfl nofun
  | receiverLinkDown p =>
    cases h
    exact .set (s.receiverTakesDown_link p) fun hdown hflag => .inl ⟨hdown, hflag⟩
  | transmitterLinkDown p =>
    cases h
    exact .set (s.transmitterTakesDown_link p) fun hdown hflag => .inl ⟨hdown, hflag⟩
  | slotFreeAtLinkDown p =>
    cases h
    exact .set (s.agentTakesDown_link p) fun hdown hflag => .inl ⟨hdown, hflag⟩
  | noticePortDown p =>
    cases h
    exact .set (s.noticeTakesDown_link p) fun hdown hflag => .inl ⟨hdown, hflag⟩
  | flush p =>
    cases h
    refine .set (s.storeTakesDown_link p) fun hdown _ => ?_
    by_cases hflag : (s.link.get p).down.frameStore = true
    · exact .inr (by rw [s.storeTakesDown_forward p hflag, PerPort.get_set_same])
    · exact .inl ⟨hdown, Bool.eq_false_of_not_eq_true hflag⟩
  | _ => exact .of_eq (hwithin .link rfl)

theorem exec_keeps_queuesSound {c : Instr} {s t : State} (hs : QueuesSound s) (h : exec c s = .next t) : QueuesSound t := by
  obtain ⟨hready, hinbox, hacks⟩ := exec_portsMoved h
  have hforward := exec_forwardMoved h
  refine ⟨hready.keeps_ingress hs.ready, hinbox.keeps_ingress hs.requests, hacks.keeps_ingress hs.acks, ?_, ?_⟩
  · intro p d hd
    obtain hsub | ⟨d', -, -, hport, haccept, e⟩ := hforward p
    · exact hs.forward p d (hsub.subset hd)
    · rw [e] at hd
      obtain hd | hd := List.mem_append.1 hd
      · exact hs.forward p d hd
      · exact List.mem_singleton.1 hd ▸ ⟨hport, haccept⟩
  · intro p hdown hflag
    obtain ⟨hbefore, hflagBefore⟩ | hempty := exec_flushedFrom h p hdown hflag
    · obtain hsub | ⟨d', hup, -⟩ := hforward p
      · exact List.sublist_nil.1 (hs.flushed p hbefore hflagBefore ▸ hsub)
      · cases hup.symm.trans hbefore
    · exact hempty

/-- Settles O7, by what a command does to each queue: frames leave it, or one frame of the right port joins. -/
theorem queuesStaySound : Obligations.QueuesStaySound :=
  step_keeps_alone (fun _ _ h => ⟨h.ready, h.requests, h.acks, h.forward, h.flushed⟩) fun _ _ _ => exec_keeps_queuesSound

end Sys2Proof.Machine
end

section
/-! PROOFS. Capacities (R11, R22, R26, R136, R137, R159), and the management agent's items (R159, R163, R164, R170). -/

namespace Sys2Proof.Machine

set_option Elab.async false

/-! ## The run counts (R26) -/

theorem State.runAfterPrecedence_le {s : State} {p : Port} (h : s.store.forward.get p = [] ∨ s.runCount.get p < 3) :
    s.runAfterPrecedence p ≤ 3 := by
  simp only [State.runAfterPrecedence]
  split
  · omega
  · obtain hempty | hlow := h
    · simp_all
    · exact hlow

theorem PerPort.forall_get_set {α : Type} {P : α → Prop} {x : PerPort α} (hx : ∀ p, P (x.get p)) {p : Port} {v : α}
    (hv : P v) (q : Port) : P ((x.set p v).get q) := by
  by_cases hq : q = p
  · subst hq
    rwa [PerPort.get_set_same]
  · rw [PerPort.get_set_of_ne _ _ hq]
    exact hx q

theorem State.grant_runCount {s : State} (hs : ∀ q, s.runCount.get q ≤ 3) (p q : Port) :
    (s.grant p).runCount.get q ≤ 3 := by
  have hset : ∀ n, n ≤ 3 → (s.runCount.set p n).get q ≤ 3 := fun n hn =>
    PerPort.forall_get_set (P := (· ≤ 3)) hs hn q
  simp only [State.grant]
  (repeat' split)
  · exact hset 0 (by omega)
  · exact hset _ (State.runAfterPrecedence_le (.inr (by omega)))
  · exact hset _ (State.runAfterPrecedence_le (.inr (by omega)))
  · exact hset 0 (by omega)
  · exact hset _ (State.runAfterPrecedence_le (.inl ‹_›))
  · exact hset _ (State.runAfterPrecedence_le (.inl ‹_›))
  · exact hs q

theorem exec_keeps_runCount {c : Instr} {s t : State} (hs : ∀ p, s.runCount.get p ≤ 3) (h : exec c s = .next t) (p : Port) :
    t.runCount.get p ≤ 3 := by
  have hwithin := exec_within h
  have hsame : t.runCount = s.runCount → t.runCount.get p ≤ 3 := fun e => e ▸ hs p
  cases c with
  | powerOnReset =>
    cases h
    cases p <;> exact Nat.zero_le 3
  | restart =>
    obtain ⟨-, -, -, -, hrun⟩ | hrefused := execRestart_emptied h
    · rw [hrun]
      cases p <;> decide
    · exact hsame (hrefused.within (by decide) .runCount rfl)
  | linkChangeDown q =>
    revert h
    simp only [exec, execLinkChangeDown]
    split <;> rintro ⟨⟩
    · exact hs p
    · exact PerPort.forall_get_set (P := (· ≤ 3)) hs (by omega) p
  | egressGrant q =>
    revert h
    simp only [exec, execEgressGrant]
    split <;> rintro ⟨⟩
    · exact State.grant_runCount hs q p
    · exact hs p
  | _ => exact hsame (hwithin .runCount rfl)

/-! ## The event queue (R136, R137, R142) -/

/-- The event queue is within its capacities. -/
structure EventQueue.Fits (q : EventQueue) : Prop where
  size : q.size ≤ Config.eventCapacity
  window : q.outstanding.length ≤ Config.noticeWindow
  lost : q.lost ≤ 65535

theorem EventQueue.Fits.store {q : EventQueue} (h : q.Fits) (hroom : q.size < Config.eventCapacity) (time : Word)
    (kind : EventKind) (subject qualifier : Byte) (detail : Word) : (q.store time kind subject qualifier detail).Fits := by
  refine ⟨?_, h.window, h.lost⟩
  have hsize : (q.store time kind subject qualifier detail).size = q.size + 1 := by
    simp [EventQueue.store, EventQueue.size, Nat.add_assoc]
  omega

theorem EventQueue.Fits.append {q : EventQueue} (h : q.Fits) (time : Word) (kind : EventKind) (subject qualifier : Byte)
    (detail : Word) : (q.append time kind subject qualifier detail).Fits := by
  obtain ⟨l, -, hl, e⟩ | ⟨hroom, e⟩ | ⟨-, e⟩ := q.append_cases time kind subject qualifier detail <;> rw [e]
  · have hlength := coalesceNewest_length hl
    have hsize := h.size
    exact ⟨by simpa only [EventQueue.size, hlength] using hsize, h.window, h.lost⟩
  · exact h.store hroom _ _ _ _ _
  · exact ⟨h.size, h.window, by dsimp only; omega⟩

/-- An acknowledgement takes at least one record away, so that the report of a lost count has room (R138, R145). -/
theorem EventQueue.Fits.acknowledge {q : EventQueue} (h : q.Fits) (time : Word) {n : Half}
    (hn : holdsSeq n q.outstanding = true) : (q.acknowledge time n).Fits := by
  obtain ⟨k, hpos, hk, e⟩ := afterAck_eq_drop hn
  obtain ⟨hsize, hwindow, hlost⟩ := h
  have hfewer : ({ q with outstanding := afterAck n q.outstanding } : EventQueue).size + k = q.size := by
    simp only [EventQueue.size, e, List.length_drop]
    omega
  have hrest : ({ q with outstanding := afterAck n q.outstanding } : EventQueue).Fits := by
    refine ⟨by omega, ?_, hlost⟩
    simp only [e, List.length_drop]
    omega
  simp only [EventQueue.acknowledge]
  split
  · exact hrest
  · have hstored := hrest.store (by omega) time .eventsLost 0 0 (BitVec.ofNat 32 q.lost)
    exact ⟨hstored.size, hstored.window, by simp⟩

/-- A NOTICE frame carries no more records than the window leaves room for (R142). -/
theorem EventQueue.Fits.formNotice {s : State} (h : s.events.Fits) (dst : Destination) : (s.formNotice dst).events.Fits := by
  have hevents : (s.formNotice dst).events =
      { s.events with
        outstanding := s.events.outstanding ++ (s.events.unsent.take s.nextUnsentCount).map markCarried
        unsent := s.events.unsent.drop s.nextUnsentCount } := by
    simp only [State.formNotice]
    split <;> rfl
  obtain ⟨hsize, hwindow, hlost⟩ := h
  have hcount : s.nextUnsentCount ≤ Config.noticeWindow - s.events.outstanding.length ∧
      s.nextUnsentCount ≤ s.events.unsent.length := by
    simp only [State.nextUnsentCount]
    omega
  rw [hevents]
  refine ⟨?_, ?_, hlost⟩
  · simp only [EventQueue.size, List.length_append, List.length_map, List.length_take, List.length_drop] at hsize ⊢
    omega
  · simp only [List.length_append, List.length_map, List.length_take]
    omega

theorem EventQueue.restarted_fits (subject qualifier : Byte) (detail : Word) :
    (EventQueue.restarted subject qualifier detail).Fits := by
  constructor <;> simp [EventQueue.restarted, EventQueue.size, Config.eventCapacity]

theorem exec_keeps_eventsFit {c : Instr} {s t : State} (hs : s.events.Fits) (h : exec c s = .next t) : t.events.Fits := by
  cases hc : rewritesEvents c with
  | false => exact (exec_appended hc h).keeps (fun _ _ _ _ _ _ hq => hq.append _ _ _ _ _) hs
  | true =>
    cases c with
    | powerOnReset =>
      cases h
      exact EventQueue.restarted_fits _ _ _
    | restart =>
      obtain ⟨r, rest, -, -, -, -, rfl⟩ | hrefused := execRestart_cases h
      · rw [State.respond_events]
        exact EventQueue.restarted_fits _ _ _
      · rwa [hrefused.within (by decide) .events rfl]
    | noticeAck p =>
      obtain ⟨e, -⟩ | ⟨n, hn, e, -⟩ := execNoticeAck_cases h
      · rwa [e]
      · rw [e]
        exact hs.acknowledge _ hn
    | noticeForming =>
      obtain rfl | ⟨dst, -, -, -, -, e, -⟩ := execNoticeForming_cases h
      · exact hs
      · rw [e]
        exact hs.formNotice dst
    | setNotice =>
      obtain ⟨t', e, hexecuted⟩ := exec_executed (c := .setNotice) (by decide) s
      cases h.symm.trans e
      obtain rfl | ⟨r, rest, -, -, ⟨u, status, results, heffect, -, rfl⟩ | ⟨u, haccept, -⟩⟩ := hexecuted
      · exact hs
      · have hresponse : (u.answered r status results).events = u.events := by simp [State.answered]
        rw [hresponse]
        cases heffect with
        | unchanged => exact hs
        | destination => exact hs
        | noDestination =>
          refine ⟨?_, by simp [State.clearDestination], hs.lost⟩
          simpa [State.clearDestination, EventQueue.size] using hs.size
      · cases haccept
    | _ => cases hc

/-! ## What a request leaves of the agent -/

/-- A command that is answered at once leaves the agent's queue, slots and cache to its answer. -/
theorem Effect.agent {s t : State} {c : Instr} (h : Effect s c t) :
    t.agent.requests = s.agent.requests ∧ t.agent.responses = s.agent.responses ∧
      t.agent.pendingResults = s.agent.pendingResults ∧ t.agent.cache = s.agent.cache := by
  cases h with
  | @header h _ _ _ =>
    have hw := s.setBank_within s.shadow { s.bank s.shadow with header := h }
    exact ⟨hw .requests rfl, hw .responses rfl, hw .pendingResults rfl, hw .cache rfl⟩
  | @entries first es _ _ =>
    have hw := s.setBank_within s.shadow
      { s.bank s.shadow with entries := writeEntriesFrom first es (s.bank s.shadow).entries }
    exact ⟨hw .requests rfl, hw .responses rfl, hw .pendingResults rfl, hw .cache rfl⟩
  | @stop m _ =>
    have hw := s.makeTransition_within m ⟨.off, none, if isEngaged (s.monitor m).run.state then some false else none⟩
    exact ⟨hw .requests rfl, hw .responses rfl, hw .pendingResults rfl, hw .cache rfl⟩
  | @release m _ =>
    have hw := s.makeTransition_within m (releaseLatch (s.monitor m).config (s.monitor m).run 1)
    exact ⟨hw .requests rfl, hw .responses rfl, hw .pendingResults rfl, hw .cache rfl⟩
  | override c o =>
    have hw := (s.setClass c { s.classState c with override := o }).recompute_within c 256
    exact ⟨hw .requests rfl, hw .responses rfl, hw .pendingResults rfl, hw .cache rfl⟩
  | _ => exact ⟨rfl, rfl, rfl, rfl⟩

theorem State.respond_cache (s : State) (p : Port) (a : Byte) (q t : Half) (c : Byte) (u : Status) (b : List Byte) :
    ∃ e, (s.respond p a q t c u b).agent.cache = cacheInsert e s.agent.cache := by
  simp only [State.respond, State.holdResponse]
  split <;> exact ⟨_, rfl⟩

/-! ## The reply cache (R164) -/

/-- The reply cache is the one before or empty, and at most one entry has been entered. -/
def CacheMoved (x y : List CacheEntry) : Prop :=
  ∃ z, (z = x ∨ z = []) ∧ (y = z ∨ ∃ e, y = cacheInsert e z)

theorem CacheMoved.of_eq {x y : List CacheEntry} (h : y = x) : CacheMoved x y := ⟨x, .inl rfl, .inl h⟩

theorem CacheMoved.insert {x y : List CacheEntry} (h : ∃ e, y = cacheInsert e x) : CacheMoved x y := ⟨x, .inl rfl, .inr h⟩

theorem Executed.cacheMoved {c : Instr} {s t : State} (h : Executed c s t) : CacheMoved s.agent.cache t.agent.cache := by
  obtain rfl | ⟨r, rest, -, -, ⟨t, u, results, heffect, -, rfl⟩ | ⟨t, haccept, rfl⟩⟩ := h
  · exact .of_eq rfl
  · obtain ⟨-, -, -, hcache⟩ := heffect.agent
    obtain ⟨e, he⟩ := t.respond_cache r.port r.source r.seq r.tag r.command u results
    exact .insert ⟨e, he.trans (congrArg (cacheInsert e) hcache)⟩
  · cases haccept <;> exact .of_eq rfl

theorem State.judgeArrival_cacheMoved (s : State) (r : Request) : CacheMoved s.agent.cache (s.judgeArrival r).agent.cache := by
  simp only [State.judgeArrival]
  (repeat' split)
  · exact .of_eq rfl
  · exact .of_eq rfl
  · exact .insert ((s.dropRequest r .notPermitted).respond_cache _ _ _ _ _ _ _)
  · exact .of_eq rfl
  · simp only [State.holdResponse]
    split <;> exact .of_eq rfl
  · exact .of_eq rfl
  · exact .of_eq rfl
  · exact .of_eq rfl
  · exact .of_eq rfl

theorem exec_cacheMoved {c : Instr} {s t : State} (h : exec c s = .next t) : CacheMoved s.agent.cache t.agent.cache := by
  by_cases hrequest : c ∈ requestCommands
  · obtain ⟨t', e, hexecuted⟩ := exec_executed hrequest s
    cases h.symm.trans e
    exact hexecuted.cacheMoved
  have hwithin := exec_within h
  cases c with
  | powerOnReset =>
    cases h
    exact ⟨[], .inr rfl, .inl rfl⟩
  | restart =>
    obtain ⟨r, rest, -, -, -, -, rfl⟩ | hrefused := execRestart_cases h
    · exact ⟨[], .inr rfl, .inr ((s.restartAll r).respond_cache _ _ _ _ _ _ _)⟩
    · exact hrefused.cacheMoved
  | mgmtRequestArrival p =>
    revert h
    simp only [exec, execMgmtRequestArrival]
    split <;> rintro ⟨⟩
    · exact .of_eq rfl
    · rename_i d rest _
      exact State.judgeArrival_cacheMoved { s with agent := { s.agent with inbox := s.agent.inbox.set p rest } } _
  | resultReport =>
    revert h
    simp only [exec, execResultReport]
    split <;> rintro ⟨⟩
    · simp only [State.respondReported, State.holdResponse]
      (repeat' split) <;> exact .insert ⟨_, rfl⟩
    · exact .of_eq rfl
  | _ =>
    first
    | exact absurd (by decide) hrequest
    | exact .of_eq (hwithin .cache rfl)

theorem CacheMoved.keeps {P : List CacheEntry → Prop} {x y : List CacheEntry} (h : CacheMoved x y) (hx : P x)
    (hempty : P []) (hinsert : ∀ e z, P z → P (cacheInsert e z)) : P y := by
  obtain ⟨z, hz, rfl | ⟨e, rfl⟩⟩ := h
  · obtain rfl | rfl := hz
    · exact hx
    · exact hempty
  · obtain rfl | rfl := hz
    · exact hinsert e _ hx
    · exact hinsert e _ hempty

/-! ## The request queue (R161, R163) -/

theorem Executed.requests_sublist {c : Instr} {s t : State} (h : Executed c s t) :
    t.agent.requests.Sublist s.agent.requests := by
  obtain rfl | ⟨r, rest, -, -, ⟨t, u, results, heffect, -, rfl⟩ | ⟨t, haccept, rfl⟩⟩ := h
  · exact List.Sublist.refl _
  · obtain ⟨hrequests, -, -, -⟩ := heffect.agent
    have hrespond := t.respond_within r.port r.source r.seq r.tag r.command u results .requests rfl
    exact (hrespond.trans hrequests) ▸ List.tail_sublist _
  · cases haccept <;> exact List.tail_sublist _

theorem State.judgeArrival_requests (s : State) (r : Request) :
    (s.judgeArrival r).agent.requests = s.agent.requests ∨
      s.agent.requests.length < Config.requestCapacity ∧ (s.judgeArrival r).agent.requests = s.agent.requests ++ [r] := by
  simp only [State.judgeArrival]
  (repeat' split)
  · exact .inl rfl
  · exact .inl rfl
  · exact .inl ((s.dropRequest r .notPermitted).respond_within _ _ _ _ _ _ _ .requests rfl)
  · exact .inl rfl
  · simp only [State.holdResponse]
    split <;> exact .inl rfl
  · exact .inl rfl
  · exact .inl rfl
  · exact .inl rfl
  · exact .inr ⟨by omega, rfl⟩

theorem exec_keeps_requestsFit {c : Instr} {s t : State} (hs : s.agent.requests.length ≤ Config.requestCapacity)
    (h : exec c s = .next t) : t.agent.requests.length ≤ Config.requestCapacity := by
  by_cases hrequest : c ∈ requestCommands
  · obtain ⟨t', e, hexecuted⟩ := exec_executed hrequest s
    cases h.symm.trans e
    exact hexecuted.requests_sublist.length_le.trans hs
  have hwithin := exec_within h
  have hsame : t.agent.requests = s.agent.requests → t.agent.requests.length ≤ Config.requestCapacity := fun e => e ▸ hs
  cases c with
  | powerOnReset =>
    cases h
    exact Nat.zero_le _
  | restart =>
    obtain ⟨r, rest, -, -, -, -, rfl⟩ | hrefused := execRestart_cases h
    · rw [show (State.respond ..).agent.requests = _ from
        (s.restartAll r).respond_within r.port r.source r.seq r.tag r.command .done [] .requests rfl]
      exact Nat.zero_le _
    · exact hrefused.requests_sublist.length_le.trans hs
  | mgmtRequestArrival p =>
    revert h
    simp only [exec, execMgmtRequestArrival]
    split <;> rintro ⟨⟩
    · exact hs
    · rename_i d rest _
      obtain e | ⟨hroom, e⟩ := State.judgeArrival_requests
        { s with agent := { s.agent with inbox := s.agent.inbox.set p rest } }
        (State.requestOf { s with agent := { s.agent with inbox := s.agent.inbox.set p rest } } d)
      · rwa [e]
      · rw [e, List.length_append]
        exact hroom
  | _ =>
    first
    | exact absurd (by decide) hrequest
    | exact hsame (hwithin .requests rfl)

/-! ## The response slots (R159, R163, R165, R166) -/

theorem State.holdResponse_slots (s : State) (p : Port) (f : Originated) :
    (s.holdResponse p f).agent.slotsInUse ≤ s.agent.slotsInUse + 1 := by
  simp only [State.holdResponse]
  split
  · simp only [Agent.slotsInUse, List.length_append, List.length_singleton]
    omega
  · omega

theorem State.respond_slots (s : State) (p : Port) (a : Byte) (q t : Half) (c : Byte) (u : Status) (b : List Byte) :
    (s.respond p a q t c u b).agent.slotsInUse ≤ s.agent.slotsInUse + 1 :=
  (s.cacheResponse p a t _).holdResponse_slots p _

theorem Agent.slotsInUse_congr {a b : Agent} (hresponses : b.responses = a.responses)
    (hpending : b.pendingResults = a.pendingResults) : b.slotsInUse = a.slotsInUse := by
  rw [Agent.slotsInUse, Agent.slotsInUse, hresponses, hpending]

theorem Executed.slots {c : Instr} {s t : State} (h : Executed c s t)
    (hs : s.agent.slotsInUse ≤ Config.responseSlots) : t.agent.slotsInUse ≤ Config.responseSlots := by
  obtain rfl | ⟨r, rest, -, hfree, ⟨t, u, results, heffect, -, rfl⟩ | ⟨t, haccept, rfl⟩⟩ := h
  · exact hs
  · obtain ⟨-, hresponses, hpending, -⟩ := heffect.agent
    have hsame : t.agent.slotsInUse = s.agent.slotsInUse := Agent.slotsInUse_congr hresponses hpending
    have hrespond := t.respond_slots r.port r.source r.seq r.tag r.command u results
    have hanswered : (t.answered r u results).agent.slotsInUse ≤ t.agent.slotsInUse + 1 := hrespond
    omega
  · have hreserve : ((t.reserve r).endExecution r).agent.slotsInUse = s.agent.slotsInUse + 1 := by
      cases haccept <;> simp [Agent.slotsInUse, Nat.add_assoc]
    omega

theorem State.judgeArrival_slots {s : State} (hs : s.agent.slotsInUse ≤ Config.responseSlots) (r : Request) :
    (s.judgeArrival r).agent.slotsInUse ≤ Config.responseSlots := by
  have hone : ∀ t : State, s.agent.slotFree = true → t.agent.slotsInUse ≤ s.agent.slotsInUse + 1 →
      t.agent.slotsInUse ≤ Config.responseSlots := fun t hfree ht =>
    ht.trans ((Agent.slotFree_iff _).1 hfree)
  simp only [State.judgeArrival]
  (repeat' split)
  · exact hs
  · exact hs
  · exact hone _ ‹_› ((s.dropRequest r .notPermitted).respond_slots _ _ _ _ _ _ _)
  · exact hs
  · exact hone _ ‹_› ((s.dropRequest r .duplicate).holdResponse_slots _ _)
  · exact hs
  · exact hs
  · exact hs
  · exact hs

theorem length_grantFirst (p : Port) (l : List HeldResponse) : (grantFirst p l).length = l.length := by
  induction l with
  | nil => rfl
  | cons r rest ih =>
    rw [grantFirst]
    split
    · rfl
    · exact congrArg Nat.succ ih

theorem State.grant_slots (s : State) (p : Port) : (s.grant p).agent.slotsInUse = s.agent.slotsInUse := by
  have hresponse : ∀ f, (s.grantResponse p f).agent.slotsInUse = s.agent.slotsInUse := fun f => by
    simp [State.grantResponse, State.setRunCount, State.setTransmitter, Agent.slotsInUse, length_grantFirst]
  simp only [State.grant]
  (repeat' split)
  · rfl
  · exact hresponse _
  · rfl
  · rfl
  · exact hresponse _
  · rfl
  · rfl

/-- Pending results of a port that goes DOWN lose their reservations, and no other gains one (R166). -/
theorem length_filter_reserved_le (p : Port) (l : List PendingResult) :
    ((l.map fun (r : PendingResult) => if r.port = p then { r with slotReserved := false } else r).filter
      (·.slotReserved)).length ≤ (l.filter (·.slotReserved)).length := by
  rw [List.filter_map, List.length_map]
  refine (List.monotone_filter_right l fun r hr => ?_).length_le
  by_cases hp : r.port = p <;> simp_all

theorem State.agentTakesDown_slots (s : State) (p : Port) :
    (s.agentTakesDown p).agent.slotsInUse ≤ s.agent.slotsInUse := by
  simp only [State.agentTakesDown]
  split
  · exact Nat.add_le_add (List.length_filter_le _ _) (length_filter_reserved_le p _)
  · exact Nat.le_refl _

theorem State.allTakeDown_slots (s : State) (p : Port) : (s.allTakeDown p).agent.slotsInUse ≤ s.agent.slotsInUse := by
  let t := ((s.receiverTakesDown p).transmitterTakesDown p).storeTakesDown p
  have hbefore : t.agent.slotsInUse = s.agent.slotsInUse := by
    have hr := s.receiverTakesDown_within p
    have hx := (s.receiverTakesDown p).transmitterTakesDown_within p
    have hf := ((s.receiverTakesDown p).transmitterTakesDown p).storeTakesDown_within p
    exact Agent.slotsInUse_congr (((hf .responses rfl).trans (hx .responses rfl)).trans (hr .responses rfl))
      (((hf .pendingResults rfl).trans (hx .pendingResults rfl)).trans (hr .pendingResults rfl))
  have hafter : (s.allTakeDown p).agent.slotsInUse = (t.agentTakesDown p).agent.slotsInUse := by
    have hn := (t.agentTakesDown p).noticeTakesDown_within p
    exact Agent.slotsInUse_congr (hn .responses rfl) (hn .pendingResults rfl)
  rw [hafter, ← hbefore]
  exact t.agentTakesDown_slots p

theorem exec_keeps_slotsFit {c : Instr} {s t : State} (hs : s.agent.slotsInUse ≤ Config.responseSlots)
    (h : exec c s = .next t) : t.agent.slotsInUse ≤ Config.responseSlots := by
  by_cases hrequest : c ∈ requestCommands
  · obtain ⟨t', e, hexecuted⟩ := exec_executed hrequest s
    cases h.symm.trans e
    exact hexecuted.slots hs
  have hwithin := exec_within h
  have hsame : t.agent.responses = s.agent.responses → t.agent.pendingResults = s.agent.pendingResults →
      t.agent.slotsInUse ≤ Config.responseSlots := fun hr hp => (Agent.slotsInUse_congr hr hp).trans_le hs
  cases c with
  | powerOnReset =>
    cases h
    exact Nat.zero_le _
  | restart =>
    obtain ⟨r, rest, -, -, -, -, rfl⟩ | hrefused := execRestart_cases h
    · refine ((s.restartAll r).respond_slots _ _ _ _ _ _ _).trans ?_
      exact Nat.succ_le_of_lt (Nat.lt_of_le_of_lt (Nat.zero_le 0) (by decide))
    · exact hrefused.slots hs
  | linkChangeUp p =>
    revert h
    simp only [exec, execLinkChangeUp]
    split <;> rintro ⟨⟩
    · exact hs
    · exact (s.allTakeDown_slots p).trans hs
  | slotFreeAtLinkDown p =>
    cases h
    exact (s.agentTakesDown_slots p).trans hs
  | mgmtRequestArrival p =>
    revert h
    simp only [exec, execMgmtRequestArrival]
    split <;> rintro ⟨⟩
    · exact hs
    · rename_i d rest _
      exact State.judgeArrival_slots (s := { s with agent := { s.agent with inbox := s.agent.inbox.set p rest } }) hs _
  | egressGrant p =>
    revert h
    simp only [exec, execEgressGrant]
    split <;> rintro ⟨⟩
    · exact (s.grant_slots p).trans_le hs
    · exact hs
  | endOfTransmission p =>
    revert h
    simp only [exec, execEndOfTransmission]
    split <;> rintro ⟨⟩
    · rename_i f _
      cases f with
      | response f => exact (Nat.add_le_add_right (freeSent_sublist _ p).length_le _).trans hs
      | notice f => exact hs
      | forwarded d => exact hs
    · exact hs
  | resultReport =>
    revert h
    simp only [exec, execResultReport]
    split <;> rintro ⟨⟩
    · rename_i r reports q rest hreports hpending
      rw [Agent.slotsInUse, hpending, List.filter_cons] at hs
      simp only [State.respondReported]
      split
      · rename_i hreserved
        rw [if_pos hreserved, List.length_cons] at hs
        exact (State.holdResponse_slots ..).trans hs
      · rename_i hreserved
        rwa [if_neg hreserved] at hs
    · exact hs
  | _ =>
    first
    | exact absurd (by decide) hrequest
    | exact hsame (hwithin .responses rfl) (hwithin .pendingResults rfl)

theorem exec_keeps_withinCapacities {c : Instr} {s t : State} (hs : WithinCapacities s) (h : exec c s = .next t) :
    WithinCapacities t := by
  obtain ⟨hready, -, -⟩ := exec_portsMoved h
  obtain ⟨hsize, hwindow, hlost⟩ := exec_keeps_eventsFit ⟨hs.events, hs.window, hs.lost⟩ h
  refine ⟨hready.keeps_length hs.ready, fun p => ?_, exec_keeps_runCount hs.runCount h, hsize, hwindow, hlost,
    exec_keeps_requestsFit hs.requests h, exec_keeps_slotsFit hs.slots h, ?_⟩
  · obtain hsub | ⟨d, -, hroom, -, -, e⟩ := exec_forwardMoved h p
    · exact hsub.length_le.trans (hs.forward p)
    · rw [e, List.length_append]
      exact hroom
  · exact (exec_cacheMoved h).keeps (P := fun l => l.length ≤ Config.cacheCapacity) hs.cache (Nat.zero_le _)
      fun e z _ => cacheInsert_length_le e z

/-- Settles O8, collection by collection: each gains an item only where it has room. -/
theorem capacitiesStayKept : Obligations.CapacitiesStayKept :=
  step_keeps_alone (fun _ _ h => ⟨h.ready, h.forward, h.runCount, h.events, h.window, h.lost, h.requests, h.slots, h.cache⟩)
    fun _ _ _ => exec_keeps_withinCapacities

/-! ## The agent's items (R159, R163, R164, R170) -/

/-- The access configuration is one that R159 and R170 allow. -/
def Agent.AccessLegal (a : Agent) : Prop :=
  (a.ownAddress ≠ 0 ∧ a.ownAddress ≠ 255) ∧ (a.portSet.a = true ∨ a.portSet.b = true) ∧
    a.sources.length ≤ 4 ∧ a.sources.Nodup ∧ (255 : Byte) ∉ a.sources

/-- No two entries of a reply cache share a key. -/
def DistinctKeys (l : List CacheEntry) : Prop :=
  l.Pairwise fun x y => ¬ (x.port = y.port ∧ x.source = y.source ∧ x.tag = y.tag)

/-- Each accepted VERIFY or COMMIT not yet answered has its pending result. -/
def State.ResultsPaired (s : State) : Prop :=
  s.agent.pendingResults.length = s.tables.reports.length + (if s.tables.state = .idle then 0 else 1)

theorem agentSound_iff (s : State) :
    AgentSound s ↔ s.agent.AccessLegal ∧ DistinctKeys s.agent.cache ∧ s.ResultsPaired :=
  ⟨fun ⟨haddress, hports, hsources, hkeys, hresults⟩ => ⟨⟨haddress, hports, hsources⟩, hkeys, hresults⟩,
    fun ⟨⟨haddress, hports, hsources⟩, hkeys, hresults⟩ => ⟨haddress, hports, hsources, hkeys, hresults⟩⟩

theorem Agent.AccessLegal.congr {a b : Agent} (h : a.AccessLegal)
    (hsame : b.ownAddress = a.ownAddress ∧ b.portSet = a.portSet ∧ b.sources = a.sources) : b.AccessLegal := by
  obtain ⟨haddress, hports, hsources⟩ := hsame
  rwa [Agent.AccessLegal, haddress, hports, hsources]

theorem Agent.AccessLegal.powerOn : Agent.powerOn.AccessLegal := by simp [Agent.AccessLegal, Agent.powerOn, PerPort.both]

theorem Effect.keeps_accessLegal {s t : State} {c : Instr} (h : Effect s c t) (hs : s.agent.AccessLegal) :
    t.agent.AccessLegal := by
  obtain ⟨haddress, hports, hsources⟩ := hs
  cases h with
  | ownAddress hzero hlast => exact ⟨⟨hzero, hlast⟩, hports, hsources⟩
  | access hports hfew hdistinct hlast => exact ⟨haddress, hports, hfew, hdistinct, hlast⟩
  | header => exact Agent.AccessLegal.congr ⟨haddress, hports, hsources⟩ (State.setBank_within _ _ _ .access rfl)
  | entries => exact Agent.AccessLegal.congr ⟨haddress, hports, hsources⟩ (State.setBank_within _ _ _ .access rfl)
  | stop => exact Agent.AccessLegal.congr ⟨haddress, hports, hsources⟩ (State.makeTransition_within _ _ _ .access rfl)
  | release => exact Agent.AccessLegal.congr ⟨haddress, hports, hsources⟩ (State.makeTransition_within _ _ _ .access rfl)
  | override => exact Agent.AccessLegal.congr ⟨haddress, hports, hsources⟩ (State.recompute_within _ _ _ .access rfl)
  | _ => exact ⟨haddress, hports, hsources⟩

theorem Executed.keeps_accessLegal {c : Instr} {s t : State} (h : Executed c s t) (hs : s.agent.AccessLegal) :
    t.agent.AccessLegal := by
  obtain rfl | ⟨r, rest, -, -, ⟨t, u, results, heffect, -, rfl⟩ | ⟨t, haccept, rfl⟩⟩ := h
  · exact hs
  · exact (heffect.keeps_accessLegal hs).congr
      (t.respond_within r.port r.source r.seq r.tag r.command u results .access rfl)
  · cases haccept <;> exact hs

theorem exec_keeps_accessLegal {c : Instr} {s t : State} (hs : s.agent.AccessLegal) (h : exec c s = .next t) :
    t.agent.AccessLegal := by
  by_cases hrequest : c ∈ requestCommands
  · obtain ⟨t', e, hexecuted⟩ := exec_executed hrequest s
    cases h.symm.trans e
    exact hexecuted.keeps_accessLegal hs
  have hwithin := exec_within h
  cases c with
  | powerOnReset =>
    cases h
    exact .powerOn
  | restart =>
    obtain ⟨r, rest, -, -, -, -, rfl⟩ | hrefused := execRestart_cases h
    · exact hs.congr ((s.restartAll r).respond_within r.port r.source r.seq r.tag r.command .done [] .access rfl)
    · exact hrefused.keeps_accessLegal hs
  | _ =>
    first
    | exact absurd (by decide) hrequest
    | exact hs.congr (hwithin .access rfl)

theorem sameKey_iff (p : Port) (a : Byte) (t : Half) (e : CacheEntry) :
    sameKey p a t e = true ↔ e.port = p ∧ e.source = a ∧ e.tag = t := by
  simp [sameKey, and_assoc]

theorem DistinctKeys.insert (e : CacheEntry) {l : List CacheEntry} (h : DistinctKeys l) : DistinctKeys (cacheInsert e l) := by
  have hothers := h.sublist (List.filter_sublist (p := fun x => !sameKey e.port e.source e.tag x))
  refine List.pairwise_append.2 ⟨hothers.sublist (List.drop_sublist _ _), List.pairwise_singleton _ _, ?_⟩
  intro x hx y hy
  rw [List.mem_singleton.1 hy]
  have hother := List.of_mem_filter (List.mem_of_mem_drop hx)
  rw [Bool.not_eq_true', Bool.eq_false_iff, Ne, sameKey_iff] at hother
  exact hother

/-! ### Pending results -/

theorem State.ResultsPaired.congr {s t : State} (h : s.ResultsPaired)
    (hpending : t.agent.pendingResults.length = s.agent.pendingResults.length) (hreports : t.tables.reports = s.tables.reports)
    (hstate : t.tables.state = s.tables.state) : t.ResultsPaired := by
  rwa [State.ResultsPaired, hpending, hreports, hstate]

theorem State.ResultsPaired.of_within {s t : State} (h : s.ResultsPaired) {l : List Part} (hw : Within l s t)
    (hpending : l.contains Part.pendingResults = false) (htables : l.contains Part.tables = false) : t.ResultsPaired := by
  have hsame : t.tables = s.tables := hw .tables htables
  exact h.congr (congrArg List.length (hw .pendingResults hpending)) (congrArg _ hsame) (congrArg _ hsame)

theorem State.setBank_tables (s : State) (k : BankId) (b : Bank) :
    (s.setBank k b).tables.reports = s.tables.reports ∧ (s.setBank k b).tables.state = s.tables.state := by
  cases k <;> exact ⟨rfl, rfl⟩

theorem Effect.keeps_resultsPaired {s t : State} {c : Instr} (h : Effect s c t) (hs : s.ResultsPaired) :
    t.ResultsPaired := by
  have hbank : ∀ k b, (s.setBank k b).ResultsPaired := fun k b => by
    obtain ⟨hreports, hstate⟩ := s.setBank_tables k b
    exact hs.congr (congrArg List.length (s.setBank_within k b .pendingResults rfl)) hreports hstate
  cases h with
  | header => exact hbank _ _
  | entries => exact hbank _ _
  | stop => exact hs.of_within (State.makeTransition_within _ _ _) rfl rfl
  | release => exact hs.of_within (State.makeTransition_within _ _ _) rfl rfl
  | override c o =>
    exact State.ResultsPaired.of_within (s := s.setClass c { s.classState c with override := o }) hs
      (State.recompute_within _ _ _) rfl rfl
  | _ => exact hs

theorem Executed.keeps_resultsPaired {c : Instr} {s t : State} (h : Executed c s t) (hs : s.ResultsPaired) :
    t.ResultsPaired := by
  obtain rfl | ⟨r, rest, -, -, ⟨t, u, results, heffect, -, rfl⟩ | ⟨t, haccept, rfl⟩⟩ := h
  · exact hs
  · have hw := t.respond_within r.port r.source r.seq r.tag r.command u results
    have ht : t.ResultsPaired := heffect.keeps_resultsPaired (s := s.dequeue) hs
    exact State.ResultsPaired.of_within (s := t.respond r.port r.source r.seq r.tag r.command u results)
      (ht.of_within hw rfl rfl) (State.endExecution_within _ r) rfl rfl
  · have hplus : ∀ x : TableState, s.tables.state = .idle → x ≠ .idle →
        s.agent.pendingResults.length + 1 = s.tables.reports.length + (if x = .idle then 0 else 1) := by
      intro x hidle hx
      rw [if_neg hx, hs, if_pos hidle, Nat.add_zero]
    cases haccept with
    | verify hidle => simpa [State.ResultsPaired] using hplus .verifying hidle nofun
    | commit mode hidle => simpa [State.ResultsPaired] using hplus (.switchPending mode) hidle nofun

/-- The end of an examination or of a commit posts the result of a table service that was not IDLE. -/
theorem State.ResultsPaired.posted {s t : State} (h : s.ResultsPaired) (hbusy : s.tables.state ≠ .idle)
    (hpending : t.agent.pendingResults = s.agent.pendingResults) (hidle : t.tables.state = .idle)
    (hreports : t.tables.reports.length = s.tables.reports.length + 1) : t.ResultsPaired := by
  rw [State.ResultsPaired, hpending, hreports, if_pos hidle, Nat.add_zero, h, if_neg hbusy]

theorem State.ResultsPaired.switchBanks {s : State} (h : s.ResultsPaired) : s.switchBanks.ResultsPaired := by
  simp only [State.switchBanks]
  split
  · rename_i hstate
    refine h.posted ?_ rfl rfl (List.length_append ..)
    rw [show s.tables.state = _ from hstate]
    nofun
  · rename_i hstate
    rw [State.ResultsPaired, show s.tables.state = _ from hstate] at h
    exact h
  · exact h

theorem State.ResultsPaired.makeAwaitedSwitch {s : State} (h : s.ResultsPaired) : s.makeAwaitedSwitch.ResultsPaired := by
  simp only [State.makeAwaitedSwitch]
  split
  · exact State.ResultsPaired.switchBanks (s := s.takeRequest) h
  · exact h

theorem State.ResultsPaired.completeWalk {s : State} (h : s.ResultsPaired) (d : Descriptor) (w : Walk) :
    (s.completeWalk d w).ResultsPaired :=
  (h.of_within (s.finishWalk_within d w _) rfl rfl).makeAwaitedSwitch

theorem State.agentTakesDown_pendingResults (s : State) (p : Port) :
    (s.agentTakesDown p).agent.pendingResults.length = s.agent.pendingResults.length := by
  simp only [State.agentTakesDown]
  split
  · exact List.length_map _
  · rfl

theorem State.allTakeDown_pendingResults (s : State) (p : Port) :
    (s.allTakeDown p).agent.pendingResults.length = s.agent.pendingResults.length := by
  let t := ((s.receiverTakesDown p).transmitterTakesDown p).storeTakesDown p
  have hr := s.receiverTakesDown_within p .pendingResults rfl
  have hx := (s.receiverTakesDown p).transmitterTakesDown_within p .pendingResults rfl
  have hf := ((s.receiverTakesDown p).transmitterTakesDown p).storeTakesDown_within p .pendingResults rfl
  have hn := (t.agentTakesDown p).noticeTakesDown_within p .pendingResults rfl
  exact ((congrArg List.length hn).trans (t.agentTakesDown_pendingResults p)).trans
    (congrArg List.length ((hf.trans hx).trans hr))

theorem exec_keeps_resultsPaired {c : Instr} {s t : State} (hs : s.ResultsPaired) (h : exec c s = .next t) :
    t.ResultsPaired := by
  by_cases hrequest : c ∈ requestCommands
  · obtain ⟨t', e, hexecuted⟩ := exec_executed hrequest s
    cases h.symm.trans e
    exact hexecuted.keeps_resultsPaired hs
  have hwithin := exec_within h
  cases c with
  | powerOnReset =>
    cases h
    rfl
  | restart =>
    obtain ⟨r, rest, -, -, -, -, rfl⟩ | hrefused := execRestart_cases h
    · have hw := (s.restartAll r).respond_within r.port r.source r.seq r.tag r.command .done []
      exact State.ResultsPaired.of_within (s := s.restartAll r) rfl hw rfl rfl
    · exact hrefused.keeps_resultsPaired hs
  | linkChangeUp p =>
    have htables : t.tables = s.tables := hwithin .tables rfl
    refine hs.congr ?_ (congrArg _ htables) (congrArg _ htables)
    revert h
    simp only [exec, execLinkChangeUp]
    split <;> rintro ⟨⟩
    · rfl
    · exact s.allTakeDown_pendingResults p
  | slotFreeAtLinkDown p =>
    have htables : t.tables = s.tables := hwithin .tables rfl
    refine hs.congr ?_ (congrArg _ htables) (congrArg _ htables)
    cases h
    exact s.agentTakesDown_pendingResults p
  | frameTake =>
    obtain e | ⟨p, d, rest, -, -, -, -, ⟨-, e⟩ | ⟨-, e⟩⟩ := execFrameTake_cases s
    · cases h.symm.trans e
      exact hs
    · cases h.symm.trans e
      exact hs
    · cases h.symm.trans e
      exact State.ResultsPaired.completeWalk (s := s.takeHead p rest) hs d _
  | walkCompletion =>
    revert h
    simp only [exec, execWalkCompletion]
    split <;> rintro ⟨⟩
    · exact hs.completeWalk _ _
    · exact hs
  | switchRequest =>
    revert h
    simp only [exec, execSwitchRequest]
    (repeat' split) <;> rintro ⟨⟩
    · exact hs
    · exact State.ResultsPaired.switchBanks (s := s.takeRequest) hs
    · exact hs
  | verifyExaminationComplete =>
    revert h
    simp only [exec, execVerifyExaminationComplete]
    split <;> rintro ⟨⟩
    · rename_i hstate
      exact hs.posted (by simp [hstate]) rfl rfl (List.length_append ..)
    · exact hs
  | copyComplete =>
    revert h
    simp only [exec, execCopyComplete]
    split <;> rintro ⟨⟩
    · rename_i hstate
      obtain ⟨hreports, -⟩ := s.setBank_tables s.shadow (s.bank s.engine.activeBank)
      have hpending := s.setBank_within s.shadow (s.bank s.engine.activeBank) .pendingResults rfl
      refine hs.posted (by simp [hstate]) hpending rfl ?_
      exact (List.length_append ..).trans (congrArg (fun l => l.length + 1) hreports)
    · exact hs
  | resultReport =>
    revert h
    simp only [exec, execResultReport]
    split <;> rintro ⟨⟩
    · rename_i r reports q rest hreports hpending
      rw [State.ResultsPaired, hreports, hpending, List.length_cons, List.length_cons] at hs
      have hrest : rest.length = reports.length + (if s.tables.state = .idle then 0 else 1) := by omega
      simp only [State.respondReported, State.holdResponse]
      (repeat' split) <;> exact hrest
    · exact hs
  | _ =>
    first
    | exact absurd (by decide) hrequest
    | exact hs.of_within hwithin rfl rfl

/-- Settles O16, item by item. -/
theorem agentStaysSound : Obligations.AgentStaysSound :=
  step_keeps_alone (fun _ _ hs => ⟨hs.address, hs.ports, hs.sources, hs.keys, hs.results⟩) fun _ s t hs h => by
    obtain ⟨haccess, hkeys, hresults⟩ := (agentSound_iff s).1 hs
    exact (agentSound_iff t).2 ⟨exec_keeps_accessLegal haccess h,
      (exec_cacheMoved h).keeps hkeys List.Pairwise.nil fun e _ hz => hz.insert e, exec_keeps_resultsPaired hresults h⟩

end Sys2Proof.Machine
end

section
/-! PROOFS. Screening (chapters 3 and 4): one evaluation of an entry, and the walk under its step budget. -/

namespace Sys2Proof.Machine

set_option Elab.async false

/-! ## One evaluation (R41, R43..R46) -/

theorem effectiveOffset_eq (e : Entry) (cursor : Nat) :
    effectiveOffset e cursor = (if e.base = .cursor then cursor else 0) + e.offset.val := by
  cases h : e.base <;> simp [effectiveOffset, h]

theorem extracted_get (e : Entry) (o : Nat) (v : Word) (slots : Slots) (k : Fin 4) :
    (extracted e o v slots)[k] = if e.extract = some k then some ⟨v, o, e.width, e.mask⟩ else slots[k] := by
  cases h : e.extract with
  | none => simp [extracted, h]
  | some j =>
    simp only [extracted, h, Option.some.injEq, Fin.getElem_fin, Vector.getElem_set, Fin.val_inj]

section

variable (cells : List Host.Cell) (d : Descriptor) (e : Entry) (cursor : Nat) (slots : Slots)

/-- The masked value that an evaluation tests (R42, R43). -/
def testedValue : Word := windowValue cells d (effectiveOffset e cursor) e.width &&& e.mask

theorem evaluate_beyond (h : d.total < effectiveOffset e cursor + widthBytes e.width + 4) :
    evaluate cells d e cursor slots = .fault .windowRange := if_pos h

theorem evaluate_within (h : effectiveOffset e cursor + widthBytes e.width + 4 ≤ d.total) :
    evaluate cells d e cursor slots =
      if testHolds e.test (testedValue cells d e cursor) e.operand = true then
        if 508 < steppedCursor e cursor (testedValue cells d e cursor) then .fault .cursorRange
        else .act e.matchAction e.matchArg (steppedCursor e cursor (testedValue cells d e cursor))
          (extracted e (effectiveOffset e cursor) (testedValue cells d e cursor) slots)
      else .act e.missAction e.missArg cursor slots := by
  rw [evaluate, if_neg (Nat.not_lt.2 h)]
  rfl

end

/-- Settles O25: the window is tested first, then the entry, then the stepped cursor. -/
theorem oneEvaluation : Obligations.OneEvaluation := by
  intro cells d e cursor slots o v holds stepped
  have ho : effectiveOffset e cursor = o := effectiveOffset_eq e cursor
  have hv : testedValue cells d e cursor = v := by rw [testedValue, ho]
  have hholds : testHolds e.test v e.operand = true ↔ holds := by
    simp only [holds]
    cases e.test <;> simp [testHolds]
  have hstepped : steppedCursor e cursor v = stepped := by
    simp only [steppedCursor, stepped]
    cases e.cursorMode
    · rfl
    · rfl
    · exact (Nat.add_assoc _ _ _).symm
  have hwithin := evaluate_within cells d e cursor slots
  simp only [ho, hv, hstepped] at hwithin
  refine ⟨fun h => evaluate_beyond cells d e cursor slots (ho ▸ h), fun h hmiss => ?_, fun h hmatch hlarge => ?_,
    fun h hmatch hsmall => ⟨extracted e o v slots, ?_, extracted_get e o v slots⟩⟩
  · rw [hwithin h, if_neg (mt hholds.1 hmiss)]
  · rw [hwithin h, if_pos (hholds.2 hmatch), if_pos hlarge]
  · rw [hwithin h, if_pos (hholds.2 hmatch), if_neg (Nat.not_lt.2 hsmall)]

/-! ## The walk (R55..R60) -/

/-- An evaluation that faults faults with the window or the cursor; one that acts takes an action of its entry. -/
theorem evaluate_cases (cells : List Host.Cell) (d : Descriptor) (e : Entry) (cursor : Nat) (slots : Slots) :
    (∃ k, evaluate cells d e cursor slots = .fault k ∧ k ≠ .stepBudget ∧ k ≠ .targetRange) ∨
      ∃ act arg cursor' slots', evaluate cells d e cursor slots = .act act arg cursor' slots' ∧
        (act = e.matchAction ∧ arg = e.matchArg ∨ act = e.missAction ∧ arg = e.missArg) := by
  by_cases hrange : d.total < effectiveOffset e cursor + widthBytes e.width + 4
  · exact .inl ⟨_, evaluate_beyond cells d e cursor slots hrange, nofun, nofun⟩
  · rw [evaluate_within cells d e cursor slots (Nat.not_lt.1 hrange)]
    split
    · split
      · exact .inl ⟨_, rfl, nofun, nofun⟩
      · exact .inr ⟨_, _, _, _, rfl, .inl ⟨rfl, rfl⟩⟩
    · exact .inr ⟨_, _, _, _, rfl, .inr ⟨rfl, rfl⟩⟩

/-- Every action of an entry of the bank's program is legal, and its NEXT targets lie below the length. -/
def Bank.Walkable (b : Bank) : Prop :=
  ∀ i, i < b.header.length.val → ∀ act arg,
    (act = (b.entryAt i).matchAction ∧ arg = (b.entryAt i).matchArg ∨
      act = (b.entryAt i).missAction ∧ arg = (b.entryAt i).missArg) →
    (act = .next → arg.toNat < b.header.length.val) ∧ (act = .accept → argClass arg ≠ 0)

theorem Bank.entryAt_legal {b : Bank} (hlegal : ∀ e ∈ b.entries.toList, legalEntry e = true) (i : Nat) :
    legalEntry (b.entryAt i) = true := by
  rw [Bank.entryAt]
  cases hi : b.entries[i]? with
  | none => exact legalEntry_powerOn
  | some e =>
    refine hlegal e ?_
    rw [Vector.mem_toList_iff]
    exact Vector.mem_of_getElem? hi

theorem legalArg_accept {act : Action} {arg : Byte} (h : legalArg act arg = true) (hact : act = .accept) :
    argClass arg ≠ 0 := by
  subst hact
  simpa [legalArg] using h

theorem Bank.walkable {b : Bank} (hpassed : examine b = .passed) (hlegal : ∀ e ∈ b.entries.toList, legalEntry e = true) :
    b.Walkable := by
  obtain ⟨-, hentries⟩ := (examine_eq_passed_iff b).1 hpassed
  intro i hi act arg haction
  obtain ⟨htarget, -⟩ := hentries i hi
  have hlegalEntry := Bank.entryAt_legal hlegal i
  simp only [Entry.BadTarget, not_or, not_and, Nat.not_le] at htarget
  obtain ⟨hmatch, hmiss⟩ := htarget
  obtain ⟨hmatchLegal, hmissLegal⟩ := (Bool.and_eq_true _ _).mp hlegalEntry
  obtain ⟨rfl, rfl⟩ | ⟨rfl, rfl⟩ := haction
  · exact ⟨hmatch, legalArg_accept hmatchLegal⟩
  · exact ⟨hmiss, legalArg_accept hmissLegal⟩

/-- A walk's end, after `steps` steps with `left` more in the budget, under a program of `length` entries. -/
def WalkEnd.Fits (length steps left : Nat) : WalkEnd → Prop
  | .verdict v c _ n => steps + 1 ≤ n ∧ n ≤ steps + left ∧ (v = .accept → c ≠ 0)
  | .fault k i n => steps ≤ n ∧ n ≤ steps + left ∧ i < length ∧ (k = .stepBudget → n = steps + left) ∧ k ≠ .targetRange ∧
      (k = .stepBudget ∨ steps + 1 ≤ n)

theorem WalkEnd.Fits.after_step {length steps left : Nat} {x : WalkEnd} (h : x.Fits length (steps + 1) left) :
    x.Fits length steps (left + 1) := by
  cases x with
  | verdict v c slots n =>
    obtain ⟨hlow, hhigh, hclass⟩ := h
    exact ⟨by omega, by omega, hclass⟩
  | fault k i n =>
    obtain ⟨hlow, hhigh, hentry, hbudget, htarget, hcase⟩ := h
    exact ⟨by omega, by omega, hentry, fun hk => (hbudget hk).trans (by omega), htarget, .inr hlow⟩

/-- By induction on the steps left: each evaluation uses one, and goes on below the length. -/
theorem walkSteps_fits {b : Bank} (hb : b.Walkable) (cells : List Host.Cell) (d : Descriptor) (left : Nat) :
    ∀ entry cursor steps slots, entry < b.header.length.val →
      (walkSteps cells d b b.header.length.val left entry cursor steps slots).Fits b.header.length.val steps left := by
  induction left with
  | zero => exact fun entry cursor steps slots hentry => ⟨by omega, by omega, hentry, fun _ => rfl, nofun, .inl rfl⟩
  | succ left ih =>
    intro entry cursor steps slots hentry
    obtain ⟨k, heval, hbudget, htarget⟩ | ⟨act, arg, cursor', slots', heval, haction⟩ :=
      evaluate_cases cells d (b.entryAt entry) cursor slots
    · rw [Bank.entryAt] at heval
      simp only [walkSteps, heval]
      exact ⟨by omega, by omega, hentry, fun hk => absurd hk hbudget, htarget, .inr (by omega)⟩
    · obtain ⟨hnext, haccept⟩ := hb entry hentry act arg haction
      rw [Bank.entryAt] at heval
      simp only [walkSteps, heval]
      cases act with
      | accept => exact ⟨by omega, by omega, fun _ => haccept rfl⟩
      | drop => exact ⟨by omega, by omega, nofun⟩
      | next =>
        simp only [hnext rfl, if_true]
        exact (ih _ _ _ _ (hnext rfl)).after_step

/-- A walk that starts at an entry point of a passed bank starts below the length. -/
theorem entryPoint_lt {b : Bank} (hpassed : examine b = .passed) (hprogram : 0 < b.header.length.val) (p : Port) :
    entryPoint b.header p < b.header.length.val := by
  obtain ⟨hheader, -⟩ := (examine_eq_passed_iff b).1 hpassed
  simp only [Bank.BadHeader, not_and, not_or, Nat.not_le] at hheader
  obtain ⟨ha, hb⟩ := hheader hprogram
  cases p
  · exact ha
  · exact hb

section

variable (cells : List Host.Cell) (d : Descriptor) (b : Bank) (w : Walk)

theorem walkEnd_of_empty (h : w.header.length.val = 0) : walkEnd cells d b w = .verdict .accept 0 noSlots 1 := if_pos h

theorem walkEnd_of_beyond (h : 0 < w.header.length.val) (hentry : w.header.length.val ≤ w.entry) :
    walkEnd cells d b w = .fault .targetRange 256 1 := by
  rw [walkEnd, if_neg (Nat.ne_of_gt h), if_pos hentry]

theorem walkEnd_of_entry (h : w.entry < w.header.length.val) :
    walkEnd cells d b w =
      walkSteps cells d b w.header.length.val (w.header.budget - w.steps) w.entry w.cursor w.steps w.slots := by
  rw [walkEnd, if_neg (by omega), if_neg (by omega)]

end

/-- Settles O27: the equations of the walk, and induction on the steps that its budget leaves. -/
theorem walksKeepTheirBudget : Obligations.WalksKeepTheirBudget := by
  refine ⟨?_, ?_⟩
  · intro cells d b w length evaluation
    refine ⟨walkEnd_of_empty cells d b w, walkEnd_of_beyond cells d b w, fun hentry hspent => ?_, fun hentry hbudget => ?_⟩
    · rw [walkEnd_of_entry cells d b w hentry, hspent, Nat.sub_self]
      rfl
    · obtain ⟨left, hleft⟩ : ∃ left, w.header.budget - w.steps = left + 1 := ⟨w.header.budget - w.steps - 1, by omega⟩
      have hnext : w.header.budget - (w.steps + 1) = left := by omega
      have hend := walkEnd_of_entry cells d b w hentry
      rw [hleft, walkSteps] at hend
      refine ⟨fun k heval => ?_, fun action arg cursor slots heval => ⟨fun c hc => ?_, ?_, ?_⟩⟩
      · rw [hend, show evaluate _ _ _ _ _ = _ from heval]
      · have hclass : argClass arg = c := Fin.ext hc.symm
        refine ⟨?_, ?_⟩ <;> rintro rfl <;> rw [hend, show evaluate _ _ _ _ _ = _ from heval, ← hclass]
      · rintro rfl hlength
        rw [hend, show evaluate _ _ _ _ _ = _ from heval]
        exact if_neg (Nat.not_lt.2 hlength)
      · rintro rfl hlength
        rw [hend, show evaluate _ _ _ _ _ = _ from heval, walkEnd_of_entry _ _ _ _ hlength, hnext]
        exact if_pos hlength
  · intro cells d b w hpassed hheader hentry hsteps hbudget hlegal
    have hwalk : 0 < b.header.length.val →
        (walkEnd cells d b w).Fits b.header.length.val 0 b.header.budget := by
      intro hprogram
      have hpoint := entryPoint_lt hpassed hprogram d.ingress
      rw [walkEnd_of_entry cells d b w (by rwa [hheader, hentry]), hheader, hsteps, hentry]
      exact walkSteps_fits (Bank.walkable hpassed hlegal) cells d _ _ _ _ _ hpoint
    have hempty : ¬ 0 < b.header.length.val → walkEnd cells d b w = .verdict .accept 0 noSlots 1 := fun h =>
      walkEnd_of_empty cells d b w (by rw [hheader]; omega)
    refine ⟨fun v c slots n hend => ?_, fun k i n hend => ?_⟩
    · by_cases hprogram : 0 < b.header.length.val
      · have hfits := hwalk hprogram
        rw [hend] at hfits
        obtain ⟨hlow, hhigh, hclass⟩ := hfits
        exact ⟨by omega, by omega, fun hv _ => hclass hv⟩
      · cases (hempty hprogram).symm.trans hend
        exact ⟨Nat.le_refl 1, hbudget, fun _ h => absurd h hprogram⟩
    · by_cases hprogram : 0 < b.header.length.val
      · have hfits := hwalk hprogram
        rw [hend] at hfits
        obtain ⟨-, hhigh, hbelow, hspent, htarget, hcase⟩ := hfits
        refine ⟨?_, by omega, hbelow, fun hk => (hspent hk).trans (Nat.zero_add _), htarget⟩
        obtain hk | hlow := hcase
        · rw [hspent hk]
          omega
        · omega
      · cases (hempty hprogram).symm.trans hend

end Sys2Proof.Machine
end

section
/-! PROOFS. Events and counters (chapters 9 and 10): one append and one increment; and the changes to DOWN in any order
(section 1.6). -/

namespace Sys2Proof.Machine

set_option Elab.async false

/-! ## Appending an event (R134, R136, R137) -/

section

variable {kind : EventKind} {subject qualifier : Byte} {detail : Word}

theorem coalesceNewest_eq_none {l : List Queued} (h : ∀ x ∈ l, coalescesInto kind subject qualifier x = false) :
    coalesceNewest kind subject qualifier detail l = none := by
  induction l with
  | nil => rfl
  | cons x l ih =>
    rw [coalesceNewest, ih fun y hy => h y (.tail x hy), h x (.head l)]
    rfl

/-- The newest record that can take the event takes it. -/
theorem coalesceNewest_of_newest {older newer : List Queued} {x : Queued}
    (hx : coalescesInto kind subject qualifier x = true)
    (hnewer : ∀ y ∈ newer, coalescesInto kind subject qualifier y = false) :
    coalesceNewest kind subject qualifier detail (older ++ x :: newer) = some (older ++
      { x with record := { x.record with repeats := x.record.repeats + 1, detail := detail } } :: newer) := by
  induction older with
  | nil =>
    rw [List.nil_append, coalesceNewest, coalesceNewest_eq_none hnewer, hx]
    rfl
  | cons y older ih => rw [List.cons_append, coalesceNewest, ih, List.cons_append]

end

theorem coalesces_iff (kind : EventKind) : coalesces kind = true ↔ kind = .screenFault ∨ kind = .frameDiscard := by
  cases kind <;> simp [coalesces]

/-- Settles O34: the search for the newest record that can take the event, then the room in the queue. -/
theorem eventsAreStoredCoalescedOrLost : Obligations.EventsAreStoredCoalescedOrLost := by
  intro q time kind subject qualifier detail matching after
  have hmatching : ∀ x, matching x ↔ coalesces kind = true ∧ coalescesInto kind subject qualifier x = true := fun x => by
    simp [matching, coalesces_iff, coalescesInto, and_assoc]
  have hnone : (∀ x ∈ q.unsent, ¬ matching x) →
      (if coalesces kind then coalesceNewest kind subject qualifier detail q.unsent else none) = none := by
    intro h
    split
    · rename_i hkind
      refine coalesceNewest_eq_none fun x hx => Bool.eq_false_of_not_eq_true fun hinto => ?_
      exact h x hx ((hmatching x).2 ⟨hkind, hinto⟩)
    · rfl
  refine ⟨fun older x newer hunsent hx hnewer => ?_, fun h hroom => ?_, fun h hfull => ?_⟩
  · obtain ⟨hkind, hinto⟩ := (hmatching x).1 hx
    have hothers : ∀ y ∈ newer, coalescesInto kind subject qualifier y = false := fun y hy =>
      Bool.eq_false_of_not_eq_true fun hy' => hnewer y hy ((hmatching y).2 ⟨hkind, hy'⟩)
    simp only [after, EventQueue.append, hkind, if_true, hunsent, coalesceNewest_of_newest hinto hothers]
  · simp only [after, EventQueue.append, hnone h]
    exact if_pos hroom
  · simp only [after, EventQueue.append, hnone h]
    exact if_neg (Nat.not_lt.2 hfull)

/-! ## Increments (R151) -/

theorem Counter.ext {c c' : Counter} (hvalue : c.value = c'.value) (hoverflow : c.overflow = c'.overflow) : c = c' := by
  cases c
  cases c'
  exact congrArg₂ _ hvalue hoverflow

theorem Counter.add_overflow (n : Nat) (c : Counter) :
    (c.add n).overflow = true ↔ c.overflow = true ∨ 2147483647 < c.value.toNat + n := by
  rw [Counter.add, Bool.or_eq_true, decide_eq_true_eq]

theorem Counter.add_value (n : Nat) (c : Counter) : (c.add n).value.toNat = (c.value.toNat + n) % 2147483648 :=
  BitVec.toNat_ofNat ..

/-- Two increments of a counter may change places. -/
theorem Counter.add_comm (m n : Nat) (c : Counter) : (c.add m).add n = (c.add n).add m := by
  have hlt := c.value.isLt
  refine Counter.ext (BitVec.eq_of_toNat_eq ?_) (Bool.eq_iff_iff.2 ?_)
  · simp only [Counter.add_value]
    omega
  · simp only [Counter.add_overflow, Counter.add_value, or_assoc]
    exact or_congr_right (by omega)

/-- Settles O35, by what a replacement of one counter leaves of the others. -/
theorem countersWrapAndFlag : Obligations.CountersWrapAndFlag := by
  intro s id n t
  have hcounter : t.counter id = (s.counter id).add n := s.counter_count_same id n
  refine ⟨rfl, fun other hother => Counters.get_set_of_ne _ _ hother, ?_, ?_⟩
  · rw [hcounter, Counter.add_value]
  · rw [hcounter, Counter.add_overflow]
    exact Iff.rfl

/-- Two increments of counters of one port may change places. -/
theorem Counters.count_comm (c : Counters) (p : Port) (i j : PortCounter) (m n : Nat) :
    let count := fun (k : PortCounter) (x : Nat) (c : Counters) => c.set (.port p k) ((c.get (.port p k)).add x)
    count j n (count i m c) = count i m (count j n c) := by
  intro count
  by_cases hij : i = j
  · subst hij
    simp only [count, Counters.set, Counters.get, PerPort.get_set_same, PerPort.set_set, Fin.getElem_fin,
      Vector.getElem_set_self, Vector.set_set, Counter.add_comm m n]
  · have hne : (portCounterIndex i).val ≠ (portCounterIndex j).val := fun h => hij (portCounterIndex_injective (Fin.ext h))
    simp only [count, Counters.set, Counters.get, PerPort.get_set_same, PerPort.set_set, Fin.getElem_fin,
      Vector.getElem_set_ne _ _ hne, Vector.getElem_set_ne _ _ hne.symm]
    rw [Vector.set_comm _ _ hne]

/-! ## What a block's taking of a change to DOWN does (R12, R15, R30, R149, R166) -/

/-- The blocks that take a change to DOWN. -/
inductive Taker where
  | receiver | transmitter | frameStore | agent | noticeSender

/-- What a block that takes a change to DOWN of a port does to the part, in parts that act independently. -/
structure Taking where
  /-- the changes that stay to be taken, of those that were -/
  stays : DownEvents := ⟨true, true, true, true, true⟩
  receiver : Bool := false
  transmitter : Bool := false
  line : Bool := false
  queue : Bool := false
  slots : Bool := false
  gone : List Descriptor := []
  counted : Option (PortCounter × Nat) := none
  keeps : Option (NoticeFrame → Bool) := none

/-- The changes of both lists. -/
def DownEvents.both (x y : DownEvents) : DownEvents :=
  ⟨x.receiver && y.receiver, x.transmitter && y.transmitter, x.frameStore && y.frameStore, x.agent && y.agent,
    x.noticeSender && y.noticeSender⟩

/-- The agent frees what it holds for port `p`. -/
def Agent.freePort (a : Agent) (p : Port) : Agent :=
  { a with
    responses := a.responses.filter fun r => decide (r.port ≠ p)
    pendingResults := a.pendingResults.map fun (r : PendingResult) =>
      if r.port = p then { r with slotReserved := false } else r }

/-- The counters after an increment of one of port `p`, if one is made. -/
def Counters.counted (c : Counters) (p : Port) : Option (PortCounter × Nat) → Counters
  | some (i, n) => c.set (.port p i) ((c.get (.port p i)).add n)
  | none => c

/-- The notice sender after a discard of a frame that is not to be kept, if one is made. -/
def NoticeSender.keeping (n : NoticeSender) : Option (NoticeFrame → Bool) → NoticeSender
  | some keeps => { n with frame := n.frame.filter keeps }
  | none => n

/-- The state after a taking at port `p`. -/
def State.take (s : State) (p : Port) (k : Taking) : State :=
  { s with
    link := s.link.set p { s.link.get p with down := k.stays.both (s.link.get p).down }
    receivers := bif k.receiver then s.receivers.set p .down else s.receivers
    transmitters := bif k.transmitter then s.transmitters.set p .down else s.transmitters
    lineOut := bif k.line then s.lineOut.set p .abandoned else s.lineOut
    store :=
      { s.store.releaseAll k.gone with
        forward := bif k.queue then s.store.forward.set p [] else s.store.forward }
    counters := s.counters.counted p k.counted
    notice := s.notice.keeping k.keeps
    agent := bif k.slots then s.agent.freePort p else s.agent }

/-- The taking of a block at port `p`. -/
def State.takingOf (s : State) (p : Port) : Taker → Taking
  | .receiver =>
    if (s.link.get p).down.receiver then
      match s.receivers.get p with
      | .receiving f =>
        { stays := ⟨false, true, true, true, true⟩, receiver := true, gone := [f.descriptor p]
          counted := some (.rxLengthError, 1) }
      | _ => { stays := ⟨false, true, true, true, true⟩, receiver := true }
    else {}
  | .transmitter =>
    if (s.link.get p).down.transmitter then
      match s.transmitters.get p with
      | .sending (.response _) => { stays := ⟨true, false, true, true, true⟩, transmitter := true, line := true }
      | .sending (.notice _) =>
        { stays := ⟨true, false, true, true, true⟩, transmitter := true, line := true
          keeps := some fun f => !(decide (f.port = p) && f.inTransmission) }
      | .sending (.forwarded d) =>
        { stays := ⟨true, false, true, true, true⟩, transmitter := true, line := true, gone := [d.desc]
          counted := some (.txFlushed, 1) }
      | _ => { stays := ⟨true, false, true, true, true⟩, transmitter := true }
    else {}
  | .frameStore =>
    if (s.link.get p).down.frameStore then
      { stays := ⟨true, true, false, true, true⟩, queue := true, gone := (s.store.forward.get p).map (·.desc)
        counted := some (.txFlushed, (s.store.forward.get p).length) }
    else {}
  | .agent => if (s.link.get p).down.agent then { stays := ⟨true, true, true, false, true⟩, slots := true } else {}
  | .noticeSender =>
    if (s.link.get p).down.noticeSender then
      if s.isNoticePort p then { stays := ⟨true, true, true, true, false⟩, keeps := some fun f => f.inTransmission }
      else { stays := ⟨true, true, true, true, false⟩ }
    else {}

/-- The command by which a block takes a change to DOWN. -/
def Taker.instr (p : Port) : Taker → Instr
  | .receiver => .receiverLinkDown p
  | .transmitter => .transmitterLinkDown p
  | .frameStore => .flush p
  | .agent => .slotFreeAtLinkDown p
  | .noticeSender => .noticePortDown p

theorem State.take_nothing (s : State) (p : Port) : s.take p {} = s := by
  have hlink : s.link.set p { s.link.get p with down := (s.link.get p).down } = s.link := PerPort.set_get _ _
  exact congrArg (fun l => { s with link := l }) hlink

theorem FrameStore.releaseAll_setForward (st : FrameStore) (p : Port) (l : List Screened) (ds : List Descriptor) :
    (st.setForward p l).releaseAll ds = { st.releaseAll ds with forward := st.forward.set p l } := by
  induction ds generalizing st with
  | nil => rfl
  | cons d ds ih => exact ih (st.release d)

theorem State.receiverTakesDown_eq (s : State) (p : Port) : s.receiverTakesDown p = s.take p (s.takingOf p .receiver) := by
  simp only [State.receiverTakesDown, State.takingOf]
  split
  · cases s.receivers.get p <;> rfl
  · exact (s.take_nothing p).symm

theorem State.transmitterTakesDown_eq (s : State) (p : Port) :
    s.transmitterTakesDown p = s.take p (s.takingOf p .transmitter) := by
  simp only [State.transmitterTakesDown, State.takingOf]
  split
  · cases s.transmitters.get p with
    | sending f => cases f <;> rfl
    | _ => rfl
  · exact (s.take_nothing p).symm

theorem State.storeTakesDown_eq (s : State) (p : Port) : s.storeTakesDown p = s.take p (s.takingOf p .frameStore) := by
  simp only [State.storeTakesDown, State.takingOf, FrameStore.flush, FrameStore.releaseAll_setForward]
  split
  · rfl
  · exact (s.take_nothing p).symm

theorem State.agentTakesDown_eq (s : State) (p : Port) : s.agentTakesDown p = s.take p (s.takingOf p .agent) := by
  simp only [State.agentTakesDown, State.takingOf]
  split
  · rfl
  · exact (s.take_nothing p).symm

theorem State.noticeTakesDown_eq (s : State) (p : Port) : s.noticeTakesDown p = s.take p (s.takingOf p .noticeSender) := by
  simp only [State.noticeTakesDown, State.takingOf]
  split
  · split <;> rfl
  · exact (s.take_nothing p).symm

/-- Each of the five commands is its block's taking. -/
theorem exec_taker (s : State) (p : Port) (b : Taker) : exec (b.instr p) s = .next (s.take p (s.takingOf p b)) := by
  cases b with
  | receiver => exact congrArg _ (s.receiverTakesDown_eq p)
  | transmitter => exact congrArg _ (s.transmitterTakesDown_eq p)
  | frameStore => exact congrArg _ (s.storeTakesDown_eq p)
  | agent => exact congrArg _ (s.agentTakesDown_eq p)
  | noticeSender => exact congrArg _ (s.noticeTakesDown_eq p)

/-! ## Any two takings commute -/

/-- The taking leaves to block `b` what it takes. -/
def Taking.Spares (k : Taking) : Taker → Prop
  | .receiver => k.stays.receiver = true ∧ k.receiver = false
  | .transmitter => k.stays.transmitter = true ∧ k.transmitter = false
  | .frameStore => k.stays.frameStore = true ∧ k.queue = false
  | .agent => k.stays.agent = true
  | .noticeSender => k.stays.noticeSender = true

theorem State.takingOf_spares (s : State) (p : Port) {b b' : Taker} (h : b ≠ b') : (s.takingOf p b).Spares b' := by
  cases b <;> simp only [State.takingOf] <;> (repeat' split) <;> cases b' <;>
    first | exact absurd rfl h | exact ⟨rfl, rfl⟩ | exact rfl

/-- A block takes the same after a taking that spares it. -/
theorem State.takingOf_take (s : State) (p : Port) {k : Taking} {b : Taker} (h : k.Spares b) :
    (s.take p k).takingOf p b = s.takingOf p b := by
  cases b with
  | receiver =>
    obtain ⟨hstays, hreceiver⟩ := h
    simp only [State.takingOf, State.take, PerPort.get_set_same, DownEvents.both, hstays, hreceiver, Bool.true_and, cond_false]
  | transmitter =>
    obtain ⟨hstays, htransmitter⟩ := h
    simp only [State.takingOf, State.take, PerPort.get_set_same, DownEvents.both, hstays, htransmitter, Bool.true_and,
      cond_false]
  | frameStore =>
    obtain ⟨hstays, hqueue⟩ := h
    simp only [State.takingOf, State.take, PerPort.get_set_same, DownEvents.both, hstays, hqueue, Bool.true_and, cond_false]
  | agent =>
    have hstays : k.stays.agent = true := h
    simp only [State.takingOf, State.take, PerPort.get_set_same, DownEvents.both, hstays, Bool.true_and]
  | noticeSender =>
    have hstays : k.stays.noticeSender = true := h
    have hport : (s.take p k).isNoticePort p = s.isNoticePort p := by
      simp only [State.isNoticePort, State.take]
      cases k.keeps <;> rfl
    simp only [State.takingOf, hport]
    simp only [State.take, PerPort.get_set_same, DownEvents.both, hstays, Bool.true_and]

theorem DownEvents.both_left_comm (x y z : DownEvents) : x.both (y.both z) = y.both (x.both z) := by
  simp only [DownEvents.both, Bool.and_left_comm]

theorem cond_comm {α : Type} (a b : Bool) (f : α → α) (x : α) :
    (bif a then f (bif b then f x else x) else bif b then f x else x) =
      bif b then f (bif a then f x else x) else bif a then f x else x := by
  cases a <;> cases b <;> rfl

/-- The share counts after the blocks of some frames have gone. -/
def sharesWithout (shares : PerPort Nat) (ds : List Descriptor) : PerPort Nat :=
  ⟨shares.a - blocksFrom .a ds, shares.b - blocksFrom .b ds⟩

theorem FrameStore.releaseAll_closed (st : FrameStore) (ds : List Descriptor) :
    st.releaseAll ds = { st with free := st.free ++ ds.flatMap (·.blocks), share := sharesWithout st.share ds } := by
  have hshare : (st.releaseAll ds).share = sharesWithout st.share ds :=
    PerPort.ext_get fun p => (st.releaseAll_share_get ds p).trans (by cases p <;> rfl)
  rw [FrameStore.releaseAll_eq, hshare]

theorem sharesWithout_comm (shares : PerPort Nat) (ds ds' : List Descriptor) :
    sharesWithout (sharesWithout shares ds) ds' = sharesWithout (sharesWithout shares ds') ds := by
  simp only [sharesWithout, Nat.sub_sub, Nat.add_comm]

theorem Counters.counted_comm (c : Counters) (p : Port) (x y : Option (PortCounter × Nat)) :
    (c.counted p x).counted p y = (c.counted p y).counted p x := by
  cases x with
  | none => rfl
  | some x => cases y with
    | none => rfl
    | some y => exact c.count_comm p x.1 y.1 x.2 y.2

theorem NoticeSender.keeping_comm (n : NoticeSender) (x y : Option (NoticeFrame → Bool)) :
    (n.keeping x).keeping y = (n.keeping y).keeping x := by
  cases x with
  | none => rfl
  | some x => cases y with
    | none => rfl
    | some y => simp only [NoticeSender.keeping, Option.filter_filter, Bool.and_comm]

theorem State.take_comm (s : State) (p : Port) (k k' : Taking) :
    SameButFreeOrder ((s.take p k).take p k') ((s.take p k').take p k) := by
  refine ⟨?_, ?_⟩
  · simp only [State.take, FrameStore.releaseAll_closed, List.append_assoc]
    exact List.perm_append_comm.append_left _
  · simp only [State.take, FrameStore.releaseAll_closed, PerPort.get_set_same, PerPort.set_set,
      DownEvents.both_left_comm k'.stays, sharesWithout_comm _ k.gone, Counters.counted_comm _ p k.counted,
      NoticeSender.keeping_comm _ k.keeps, cond_comm k'.receiver k.receiver (fun x : PerPort Receiver => x.set p .down),
      cond_comm k'.transmitter k.transmitter (fun x : PerPort Transmitter => x.set p .down), cond_comm k'.line k.line (fun x : PerPort LineOut => x.set p .abandoned),
      cond_comm k'.queue k.queue (fun x : PerPort (List Screened) => x.set p []), cond_comm k'.slots k.slots (fun x : Agent => x.freePort p)]

/-- Settles O39: each command is a taking, two blocks leave each other what they take, and takings commute. -/
theorem changesToDownCommute : Obligations.ChangesToDownCommute := by
  intro p s c c' events hc hc'
  have hinstr : ∀ c ∈ events, ∃ b : Taker, c = b.instr p := by
    intro c hc
    simp only [events, List.mem_cons, List.not_mem_nil, or_false] at hc
    obtain rfl | rfl | rfl | rfl | rfl := hc
    · exact ⟨.receiver, rfl⟩
    · exact ⟨.transmitter, rfl⟩
    · exact ⟨.frameStore, rfl⟩
    · exact ⟨.agent, rfl⟩
    · exact ⟨.noticeSender, rfl⟩
  obtain ⟨b, rfl⟩ := hinstr c hc
  obtain ⟨b', rfl⟩ := hinstr c' hc'
  refine ⟨_, _, _, _, exec_taker s p b, exec_taker _ p b', exec_taker s p b', exec_taker _ p b, ?_⟩
  by_cases hb : b = b'
  · subst hb
    exact ⟨List.Perm.refl _, rfl⟩
  · rw [s.takingOf_take p (s.takingOf_spares p hb), s.takingOf_take p (s.takingOf_spares p (Ne.symm hb))]
    exact s.take_comm p _ _

end Sys2Proof.Machine
end

section
/-! PROOFS. The queue of commands: no command reads or changes it (notes/assumptions/1.md). -/

namespace Sys2Proof.Machine

set_option Elab.async false

/-- The state with another queue of commands. -/
abbrev State.queued (s : State) (q : List Instr) : State := { s with pending := q }

/-- A reply whose state, if it has one, has another queue of commands. -/
def Reply.queued (q : List Instr) : Reply → Reply
  | .done results t => .done results (t.queued q)
  | .refused u => .refused u
  | .accepted t => .accepted (t.queued q)

/-- A choice by one condition between the images of two values is the image of the choice. -/
theorem ite_eq_map {α β : Type} (f : α → β) {c c' : Prop} [Decidable c] [Decidable c'] (hc : c' ↔ c) {a b : α} {a' b' : β}
    (ha : a' = f a) (hb : b' = f b) : (if c' then a' else b') = f (if c then a else b) :=
  (if_congr hc ha hb).trans (apply_ite f c a b).symm

section

variable (s : State) (q : List Instr)

/-! ## What reads the state without its queue -/

theorem State.responseRequester_queued (p : Port) : (s.queued q).responseRequester p = s.responseRequester p := rfl

theorem State.noticeRequester_queued (p : Port) : (s.queued q).noticeRequester p = s.noticeRequester p := rfl

theorem State.frameBytes_queued (d : Descriptor) : (s.queued q).frameBytes d = s.frameBytes d := rfl

theorem State.requestPrecedesTake_queued : (s.queued q).requestPrecedesTake = s.requestPrecedesTake := rfl

theorem State.takePort_queued : (s.queued q).takePort = s.takePort := rfl

theorem State.startWalk_queued (p : Port) : (s.queued q).startWalk p = s.startWalk p := rfl

/-! ## The operations that several commands share -/

theorem State.receiverTakesDown_queued (p : Port) : (s.queued q).receiverTakesDown p = (s.receiverTakesDown p).queued q := by
  simp only [State.receiverTakesDown]
  (repeat' split) <;> rfl

theorem State.transmitterTakesDown_queued (p : Port) :
    (s.queued q).transmitterTakesDown p = (s.transmitterTakesDown p).queued q := by
  simp only [State.transmitterTakesDown]
  split
  · split
    · rename_i f _
      cases f <;> rfl
    · rfl
  · rfl

theorem State.storeTakesDown_queued (p : Port) : (s.queued q).storeTakesDown p = (s.storeTakesDown p).queued q := by
  simp only [State.storeTakesDown]
  split <;> rfl

theorem State.agentTakesDown_queued (p : Port) : (s.queued q).agentTakesDown p = (s.agentTakesDown p).queued q := by
  simp only [State.agentTakesDown]
  split <;> rfl

theorem State.noticeTakesDown_queued (p : Port) : (s.queued q).noticeTakesDown p = (s.noticeTakesDown p).queued q := by
  exact ite_eq_map (State.queued · q) Iff.rfl (ite_eq_map (State.queued · q) Iff.rfl rfl rfl) rfl

theorem State.allTakeDown_queued (p : Port) : (s.queued q).allTakeDown p = (s.allTakeDown p).queued q := by
  simp only [State.allTakeDown, State.receiverTakesDown_queued, State.transmitterTakesDown_queued,
    State.storeTakesDown_queued, State.agentTakesDown_queued, State.noticeTakesDown_queued]

theorem State.holdResponse_queued (p : Port) (f : Originated) :
    (s.queued q).holdResponse p f = (s.holdResponse p f).queued q := by
  simp only [State.holdResponse]
  split <;> rfl

theorem State.respond_queued (p : Port) (a : Byte) (n t : Half) (c : Byte) (u : Status) (b : List Byte) :
    (s.queued q).respond p a n t c u b = (s.respond p a n t c u b).queued q :=
  (s.cacheResponse p a t _).holdResponse_queued q p _

theorem State.respondReported_queued (p : PendingResult) (r : Report) :
    (s.queued q).respondReported p r = (s.respondReported p r).queued q := by
  simp only [State.respondReported]
  split
  · exact (s.cacheResponse p.port p.source p.tag _).holdResponse_queued q p.port _
  · rfl

theorem State.judgeArrival_queued (r : Request) : (s.queued q).judgeArrival r = (s.judgeArrival r).queued q := by
  simp only [State.judgeArrival]
  (repeat' split)
  · rfl
  · rfl
  · exact (s.dropRequest r .notPermitted).respond_queued q _ _ _ _ _ _ _
  · rfl
  · exact (s.dropRequest r .duplicate).holdResponse_queued q _ _
  · rfl
  · rfl
  · rfl
  · rfl

theorem State.offer_queued (d : Screened) : (s.queued q).offer d = (s.offer d).queued q := by
  simp only [State.offer]
  (repeat' split) <;> rfl

theorem State.decideFrame_queued (d : Screened) : (s.queued q).decideFrame d = (s.decideFrame d).queued q := by
  simp only [State.decideFrame, State.classState]
  split
  · rfl
  · split
    · exact s.offer_queued q d
    · exact State.offer_queued ((s.markFrame d.desc markedFlag).count (.cls d.cls .marked) 1) q d
    · refine ite_eq_map (State.queued · q) Iff.rfl rfl ?_
      exact State.offer_queued ((((s.setBytes (rewriteSlots d (s.rewrites d.cls) s.store.bytes)).markFrame d.desc
        (markedFlag ||| substitutedFlag)).count (.cls d.cls .marked) 1).count (.cls d.cls .substituted) 1) q d
    · rfl

theorem State.recompute_queued (c : ClassId) (w : Word) : (s.queued q).recompute c w = (s.recompute c w).queued q :=
  ite_eq_map (State.queued · q) Iff.rfl rfl (ite_eq_map (State.queued · q) Iff.rfl rfl rfl)

theorem State.report_queued (m : MonitorId) (engaged : Bool) :
    (s.queued q).report m engaged = (s.report m engaged).queued q :=
  State.recompute_queued ((s.setClass (s.monitor m).config.cls
    { s.classState (s.monitor m).config.cls with
      engaged :=
        if engaged then insertEngaged ⟨m, (s.monitor m).config.consequence, (s.monitor m).config.slot⟩
          (s.classState (s.monitor m).config.cls).engaged
        else removeEngaged m (s.classState (s.monitor m).config.cls).engaged })) q _ _

theorem State.makeTransition_queued (m : MonitorId) (t : Transition) :
    (s.queued q).makeTransition m t = (s.makeTransition m t).queued q := by
  simp only [State.makeTransition]
  cases t.event with
  | none => cases t.report with
    | none => rfl
    | some engaged => exact State.report_queued (s.setMonitor m { s.monitor m with run := t.run }) q m engaged
  | some e => cases t.report with
    | none => rfl
    | some engaged =>
      obtain ⟨kind, qualifier, detail⟩ := e
      exact State.report_queued ((s.setMonitor m { s.monitor m with run := t.run }).raise kind (byteOf m.val) qualifier
        detail) q m engaged

theorem State.monitorTakes_queued (d : Screened) (m : MonitorId) :
    State.monitorTakes d (s.queued q) m = (State.monitorTakes d s m).queued q := by
  exact ite_eq_map (State.queued · q) Iff.rfl (s.makeTransition_queued q m _) rfl

theorem State.monitorsTake_queued (d : Screened) : (s.queued q).monitorsTake d = (s.monitorsTake d).queued q := by
  simp only [State.monitorsTake]
  generalize List.finRange 48 = ms
  induction ms generalizing s with
  | nil => rfl
  | cons m ms ih => rw [List.foldl_cons, List.foldl_cons, State.monitorTakes_queued, ih]

theorem State.takeExpiry_queued (m : MonitorId) (timer : MonitorRuntime → Timer)
    (expires : MonitorConfig → MonitorRuntime → Transition) :
    (s.queued q).takeExpiry m timer expires = (s.takeExpiry m timer expires).queued q := by
  exact ite_eq_map (State.queued · q) Iff.rfl (s.makeTransition_queued q m _) rfl

theorem State.switchBanks_queued : (s.queued q).switchBanks = s.switchBanks.queued q := by
  simp only [State.switchBanks]
  split <;> rfl

theorem State.finishWalk_queued (d : Descriptor) (w : Walk) (e : WalkEnd) :
    (s.queued q).finishWalk d w e = (s.finishWalk d w e).queued q := by
  cases e <;> rfl

theorem State.makeAwaitedSwitch_queued : (s.queued q).makeAwaitedSwitch = s.makeAwaitedSwitch.queued q := by
  simp only [State.makeAwaitedSwitch]
  split
  · exact s.takeRequest.switchBanks_queued q
  · rfl

theorem State.completeWalk_queued (d : Descriptor) (w : Walk) :
    (s.queued q).completeWalk d w = (s.completeWalk d w).queued q :=
  (congrArg State.makeAwaitedSwitch (s.finishWalk_queued q d w _)).trans (State.makeAwaitedSwitch_queued _ q)

theorem State.setBank_queued (k : BankId) (b : Bank) : (s.queued q).setBank k b = (s.setBank k b).queued q := by
  cases k <;> rfl

theorem State.writeShadow_queued (b : Bank) : (s.queued q).writeShadow b = (s.writeShadow b).queued q :=
  congrArg (fun t : State => { t with tables := { t.tables with verify := .unverified } }) (s.setBank_queued q s.shadow b)

theorem State.acknowledge_queued (n : Half) : (s.queued q).acknowledge n = (s.acknowledge n).queued q := by
  simp only [State.acknowledge]
  split <;> rfl

theorem State.readAck_queued (d : Descriptor) : (s.queued q).readAck d = (s.readAck d).queued q := by
  refine ite_eq_map (State.queued · q) Iff.rfl (ite_eq_map (State.queued · q) Iff.rfl rfl ?_) rfl
  exact ((s.release d).count (.port d.ingress .rxGood) 1).acknowledge_queued q _

theorem State.route_queued (d : Descriptor) : (s.queued q).route d = (s.route d).queued q := by
  have hready : (s.queued q).offerReady d = (s.offerReady d).queued q := ite_eq_map (State.queued · q) Iff.rfl rfl rfl
  exact ite_eq_map (State.queued · q) Iff.rfl
    (ite_eq_map (State.queued · q) Iff.rfl rfl (ite_eq_map (State.queued · q) Iff.rfl rfl rfl)) hready

theorem State.grant_queued (p : Port) : (s.queued q).grant p = (s.grant p).queued q := by
  simp only [State.grant, State.responseRequester_queued, State.noticeRequester_queued]
  (repeat' split) <;> rfl

theorem State.reportSent_queued (p : Port) (f : Sending) : (s.queued q).reportSent p f = (s.reportSent p f).queued q := by
  cases f <;> rfl

theorem State.formNotice_queued (dst : Destination) : (s.queued q).formNotice dst = (s.formNotice dst).queued q := by
  exact ite_eq_map (State.queued · q) Iff.rfl rfl rfl

theorem State.restartTables_queued : (s.queued q).restartTables = s.restartTables.queued q := by
  cases hstate : s.tables.state with
  | copying =>
    simp only [State.restartTables, hstate]
    exact congrArg (fun t : State => { t with
      freeUses := s.freeUses + 1
      tables := { t.tables with state := .idle, reports := [], verify := .unverified } })
      (s.setBank_queued q s.shadow (copiedSoFar (s.bank s.engine.activeBank) (s.bank s.shadow) s.copiedEntries))
  | _ => simp only [State.restartTables, hstate]

theorem State.restartAll_queued (r : Request) : (s.queued q).restartAll r = (s.restartAll r).queued q := by
  simp only [State.restartAll, State.restartTables_queued]

/-! ## The executions of requests -/

/-- An execution does not read the queue where its owning block does not. -/
theorem State.execute_queued (runs : Byte → Bool) {body : Request → State → Reply}
    (h : ∀ r (t : State), body r (t.queued q) = (body r t).queued q) :
    (s.queued q).execute runs body = (s.execute runs body).queued q := by
  simp only [State.execute]
  split
  · rfl
  · rename_i r rest _
    split
    · rw [show (s.queued q).dequeue = s.dequeue.queued q from rfl, h]
      cases body r s.dequeue with
      | done results t =>
        exact congrArg (State.endExecution · r) (t.respond_queued q _ _ _ _ _ _ _)
      | refused u => exact congrArg (State.endExecution · r) (s.dequeue.respond_queued q _ _ _ _ _ _ _)
      | accepted t => rfl
    · rfl

theorem State.executeCode_queued (code : Byte) (length : Nat) {body : Request → State → Reply}
    (h : ∀ r (t : State), body r (t.queued q) = (body r t).queued q) :
    (s.queued q).executeCode code length body = (s.executeCode code length body).queued q := by
  refine s.execute_queued q _ fun r t => ?_
  simp only [withLength]
  split
  · exact h r t
  · rfl

theorem withMonitor_queued (r : Request) {k k' : MonitorId → Reply} (h : ∀ m, k' m = (k m).queued q) :
    withMonitor r k' = (withMonitor r k).queued q := by
  simp only [withMonitor]
  split
  · rfl
  · exact h _

end

section

variable (q : List Instr) (r : Request) (t : State)

theorem setAccess_queued : setAccess r (t.queued q) = (setAccess r t).queued q := by
  simp only [setAccess]
  (repeat' split) <;> rfl

theorem readHeader_queued : readHeader r (t.queued q) = (readHeader r t).queued q := by
  simp only [readHeader]
  split
  · rfl
  · exact ite_eq_map (Reply.queued q) Iff.rfl rfl rfl

theorem writeHeader_queued : writeHeader r (t.queued q) = (writeHeader r t).queued q := by
  refine ite_eq_map (Reply.queued q) Iff.rfl rfl ?_
  split
  · rfl
  · exact congrArg (Reply.done []) (t.writeShadow_queued q _)

theorem readEntries_queued : readEntries r (t.queued q) = (readEntries r t).queued q := by
  simp only [readEntries]
  split
  · rfl
  · exact ite_eq_map (Reply.queued q) Iff.rfl rfl (ite_eq_map (Reply.queued q) Iff.rfl rfl rfl)

theorem writeEntries_queued : writeEntries r (t.queued q) = (writeEntries r t).queued q := by
  refine ite_eq_map (Reply.queued q) Iff.rfl rfl (ite_eq_map (Reply.queued q) Iff.rfl rfl
    (ite_eq_map (Reply.queued q) Iff.rfl rfl ?_))
  split
  · rfl
  · exact congrArg (Reply.done []) (t.writeShadow_queued q _)

theorem verify_queued : verify (t.queued q) = (verify t).queued q := ite_eq_map (Reply.queued q) Iff.rfl rfl rfl

theorem commit_queued : commit r (t.queued q) = (commit r t).queued q := by
  simp only [commit]
  split
  · rfl
  · exact ite_eq_map (Reply.queued q) Iff.rfl rfl (ite_eq_map (Reply.queued q) Iff.rfl rfl rfl)

theorem writeMonitor_queued : writeMonitor r (t.queued q) = (writeMonitor r t).queued q := by
  refine withMonitor_queued q r fun m => ite_eq_map (Reply.queued q) Iff.rfl rfl ?_
  split <;> rfl

theorem startMonitor_queued : startMonitor r (t.queued q) = (startMonitor r t).queued q :=
  withMonitor_queued q r fun _ => ite_eq_map (Reply.queued q) Iff.rfl rfl rfl

theorem stopMonitor_queued : stopMonitor r (t.queued q) = (stopMonitor r t).queued q :=
  withMonitor_queued q r fun m =>
    ite_eq_map (Reply.queued q) Iff.rfl rfl (congrArg (Reply.done []) (t.makeTransition_queued q m _))

theorem releaseMonitor_queued : releaseMonitor r (t.queued q) = (releaseMonitor r t).queued q :=
  withMonitor_queued q r fun m =>
    ite_eq_map (Reply.queued q) Iff.rfl rfl (congrArg (Reply.done []) (t.makeTransition_queued q m _))

theorem setOverride_queued : setOverride r (t.queued q) = (setOverride r t).queued q := by
  simp only [setOverride]
  split
  · rename_i c o _ _
    have hrecompute := (t.setClass c { t.classState c with override := o }).recompute_queued q c 256
    rw [show ((t.queued q).setClass c { (t.queued q).classState c with override := o }).recompute c 256 = _ from hrecompute]
    rfl
  · rfl

theorem setNotice_queued : setNotice r (t.queued q) = (setNotice r t).queued q := by
  simp only [setNotice]
  (repeat' split) <;> rfl

theorem resumeNotice_queued : resumeNotice (t.queued q) = (resumeNotice t).queued q := by
  simp only [resumeNotice]
  (repeat' split) <;> rfl

end

/-! ## Every command -/

/-- The outcome with another queue of commands in its next state. -/
def requeued (q : List Instr) : Host.Outcome State Fault Refusal → Host.Outcome State Fault Refusal
  | .next t => .next (t.queued q)
  | o => o

theorem exec_queued (c : Instr) (s : State) (q : List Instr) : exec c (s.queued q) = requeued q (exec c s) := by
  cases c with
  | powerOnReset => rfl
  | linkChangeUp p =>
    simp only [exec, execLinkChangeUp]
    split
    · rfl
    · rw [State.allTakeDown_queued]
      rfl
  | linkChangeDown p =>
    simp only [exec, execLinkChangeDown]
    split <;> rfl
  | receiverLinkDown p => exact congrArg Host.Outcome.next (s.receiverTakesDown_queued q p)
  | transmitterLinkDown p => exact congrArg Host.Outcome.next (s.transmitterTakesDown_queued q p)
  | flush p => exact congrArg Host.Outcome.next (s.storeTakesDown_queued q p)
  | slotFreeAtLinkDown p => exact congrArg Host.Outcome.next (s.agentTakesDown_queued q p)
  | noticePortDown p => exact congrArg Host.Outcome.next (s.noticeTakesDown_queued q p)
  | frameStart p =>
    simp only [exec, execFrameStart]
    split <;> rfl
  | blockClaim p pick bytes =>
    simp only [exec, execBlockClaim]
    (repeat' split) <;> rfl
  | oversize p =>
    simp only [exec, execOversize]
    (repeat' split) <;> rfl
  | frameEnd p aborted =>
    simp only [exec, execFrameEnd, State.frameBytes]
    (repeat' split)
    · rfl
    · exact congrArg Host.Outcome.next ((s.setReceiver p .idle).route_queued q _)
    · rfl
  | mgmtRequestArrival p =>
    simp only [exec, execMgmtRequestArrival]
    split
    · rfl
    · rename_i d rest _
      exact congrArg Host.Outcome.next (State.judgeArrival_queued { s with agent := { s.agent with inbox := s.agent.inbox.set p rest } } q _)
  | noticeAck p =>
    simp only [exec, execNoticeAck]
    split
    · rfl
    · rename_i d rest _
      exact congrArg Host.Outcome.next (State.readAck_queued { s with notice := { s.notice with inbox := s.notice.inbox.set p rest } } q d)
  | frameTake =>
    simp only [exec, execFrameTake, State.takePort_queued, State.requestPrecedesTake_queued]
    split
    · split
      · rfl
      · rename_i p _ _ _ _ d rest _
        exact ite_eq_map (requeued q) Iff.rfl rfl
          (congrArg Host.Outcome.next ((s.takeHead p rest).completeWalk_queued q d (s.startWalk p)))
    · rfl
  | walkCompletion =>
    simp only [exec, execWalkCompletion]
    split
    · exact congrArg Host.Outcome.next (s.completeWalk_queued q _ _)
    · rfl
  | switchRequest =>
    refine ite_eq_map (requeued q) Iff.rfl ?_ rfl
    simp only [State.takeRequest]
    split
    · rfl
    · exact congrArg Host.Outcome.next (s.takeRequest.switchBanks_queued q)
  | monitorTakeFrame =>
    simp only [exec, execMonitorTakeFrame]
    split
    · rw [State.monitorsTake_queued, State.decideFrame_queued]
      rfl
    · rfl
  | purge k =>
    simp only [exec, execPurge]
    split <;> rfl
  | egressGrant p =>
    simp only [exec, execEgressGrant]
    split
    · exact congrArg Host.Outcome.next (s.grant_queued q p)
    · rfl
  | endOfTransmission p =>
    simp only [exec, execEndOfTransmission]
    split
    · rename_i f _
      cases f <;> rfl
    · rfl
  | tick => rfl
  | delayTimerExpiry m => exact congrArg Host.Outcome.next (s.takeExpiry_queued q m _ _)
  | recoveryTimerExpiry m => exact congrArg Host.Outcome.next (s.takeExpiry_queued q m _ _)
  | silenceTimerExpiry m => exact congrArg Host.Outcome.next (s.takeExpiry_queued q m _ _)
  | decayTimerExpiry m => exact congrArg Host.Outcome.next (s.takeExpiry_queued q m _ _)
  | latchExpiryTimerExpiry m => exact congrArg Host.Outcome.next (s.takeExpiry_queued q m _ _)
  | retransmitTimerExpiry =>
    simp only [exec, execRetransmitTimerExpiry]
    (repeat' split) <;> rfl
  | verifyExaminationComplete =>
    simp only [exec, execVerifyExaminationComplete]
    split <;> rfl
  | copyComplete =>
    simp only [exec, execCopyComplete]
    split
    · have hbank := s.setBank_queued q s.shadow (s.bank s.engine.activeBank)
      exact congrArg (fun u : State => Host.Outcome.next (u.completeCommit .copy)) hbank
    · rfl
  | resultReport =>
    simp only [exec, execResultReport]
    split
    · rename_i r reports p rest _ _
      exact congrArg Host.Outcome.next (State.respondReported_queued { s with
        tables := { s.tables with reports := reports }
        agent := { s.agent with pendingResults := rest } } q p r)
    · rfl
  | noticeForming =>
    simp only [exec, execNoticeForming]
    split
    · exact ite_eq_map (requeued q) Iff.rfl rfl (congrArg Host.Outcome.next (s.formNotice_queued q _))
    · rfl
  | identify => exact congrArg Host.Outcome.next (s.executeCode_queued q _ _ fun _ _ => rfl)
  | setAddress =>
    refine congrArg Host.Outcome.next (s.executeCode_queued q _ _ fun r t => ?_)
    dsimp only
    split <;> rfl
  | setAccess => exact congrArg Host.Outcome.next (s.execute_queued q _ (setAccess_queued q))
  | readHeader => exact congrArg Host.Outcome.next (s.executeCode_queued q _ _ (readHeader_queued q))
  | writeHeader => exact congrArg Host.Outcome.next (s.executeCode_queued q _ _ (writeHeader_queued q))
  | readEntries => exact congrArg Host.Outcome.next (s.executeCode_queued q _ _ (readEntries_queued q))
  | writeEntries => exact congrArg Host.Outcome.next (s.execute_queued q _ (writeEntries_queued q))
  | verify => exact congrArg Host.Outcome.next (s.executeCode_queued q _ _ fun _ => verify_queued q)
  | commit => exact congrArg Host.Outcome.next (s.executeCode_queued q _ _ (commit_queued q))
  | readMonitor =>
    exact congrArg Host.Outcome.next (s.executeCode_queued q _ _ fun r t => withMonitor_queued q r fun _ => rfl)
  | writeMonitor => exact congrArg Host.Outcome.next (s.executeCode_queued q _ _ (writeMonitor_queued q))
  | startMonitor => exact congrArg Host.Outcome.next (s.executeCode_queued q _ _ (startMonitor_queued q))
  | stopMonitor => exact congrArg Host.Outcome.next (s.executeCode_queued q _ _ (stopMonitor_queued q))
  | releaseMonitor => exact congrArg Host.Outcome.next (s.executeCode_queued q _ _ (releaseMonitor_queued q))
  | setOverride => exact congrArg Host.Outcome.next (s.executeCode_queued q _ _ (setOverride_queued q))
  | readStatus => exact congrArg Host.Outcome.next (s.executeCode_queued q _ _ fun _ _ => rfl)
  | readCounters =>
    refine congrArg Host.Outcome.next (s.executeCode_queued q _ _ fun r t => ?_)
    dsimp only
    split
    · split <;> rfl
    · rfl
  | setNotice => exact congrArg Host.Outcome.next (s.executeCode_queued q _ _ (setNotice_queued q))
  | resumeNotice => exact congrArg Host.Outcome.next (s.executeCode_queued q _ _ fun _ => resumeNotice_queued q)
  | restart =>
    simp only [exec, execRestart]
    split
    · rfl
    · split
      · rw [State.restartAll_queued]
        exact congrArg Host.Outcome.next (State.respond_queued _ q _ _ _ _ _ _ _)
      · exact congrArg Host.Outcome.next (s.execute_queued q _ fun _ _ => rfl)
  | badCommand => exact congrArg Host.Outcome.next (s.execute_queued q _ fun _ _ => rfl)
  | frameEndInDiscarding p =>
    simp only [exec, execFrameEndInDiscarding]
    split <;> rfl

/-- Settles O2, by the footprints for what changes and the same execution under another queue for what is read. -/
theorem commandsIgnoreTheQueue : Obligations.CommandsIgnoreTheQueue := by
  intro c s q
  obtain ⟨t, h⟩ := exec_next c s
  have hqueue : ∀ c : Instr, (footprint c).contains Part.queue = false := fun c => by cases c <;> rfl
  exact ⟨t, h, exec_within h .queue (hqueue c), (exec_queued c s q).trans (congrArg (requeued q) h)⟩

end Sys2Proof.Machine
end

section
/-! PROOFS. The executions of requests (chapter 11): what runs, what is refused, what an answer does; IDENTIFY, SET_ADDRESS
and SET_ACCESS. -/

namespace Sys2Proof.Machine

set_option Elab.async false

/-! ## One execution (R163) -/

/-- The state that a reply of the owning block leads to, from state `s` and request `r`. -/
def Reply.leaves (s : State) (r : Request) : Reply → State
  | .done results t => t.answered r .done results
  | .refused u => s.dequeue.answered r u []
  | .accepted t => (t.reserve r).endExecution r

section

variable {s : State} {r : Request} {code : Byte} {runs : Byte → Bool} {body : Request → State → Reply} {n : Nat}

theorem State.execute_of_idle (h : s.agent.requests = [] ∨ 4 ≤ s.agent.slotsInUse) : s.execute runs body = s := by
  obtain e | ⟨r, rest, hr, -, hfree, -⟩ := State.execute_cases runs body s
  · exact e
  · rw [Agent.slotFree_iff] at hfree
    obtain hempty | hfull := h
    · cases hr.symm.trans hempty
    · exact absurd hfree (Nat.not_lt.2 hfull)

theorem State.execute_of_other (hr : s.agent.requests.head? = some r) (hruns : runs r.command = false) :
    s.execute runs body = s := by
  obtain e | ⟨r', rest, hr', hruns', -, -⟩ := State.execute_cases runs body s
  · exact e
  · rw [hr', List.head?_cons, Option.some.injEq] at hr
    cases hr.symm
    cases hruns.symm.trans hruns'

theorem State.execute_of_head (hr : s.agent.requests.head? = some r) (hruns : runs r.command = true)
    (hfree : s.agent.slotsInUse < Config.responseSlots) : s.execute runs body = (body r s.dequeue).leaves s r := by
  obtain ⟨rest, hrest⟩ : ∃ rest, s.agent.requests = r :: rest := by
    cases hq : s.agent.requests with
    | nil => simp [hq] at hr
    | cons r' rest =>
      rw [hq, List.head?_cons, Option.some.injEq] at hr
      exact ⟨rest, by rw [hr]⟩
  simp only [State.execute, hrest, hruns, (Agent.slotFree_iff _).2 hfree, Bool.and_self, if_true]
  cases body r s.dequeue <;> rfl

theorem State.Executes.execute (h : s.Executes r code) (hruns : runs code = true) :
    s.execute runs body = (body r s.dequeue).leaves s r := by
  obtain ⟨hr, rfl, hfree⟩ := h
  exact State.execute_of_head hr hruns hfree

/-- The execution of a command with arguments of another length than it requires. -/
theorem State.Executes.wrongLength (h : s.Executes r code) (hlength : r.args.length ≠ n) :
    s.executeCode code n body = s.dequeue.answered r .badArgument [] := by
  rw [State.executeCode, h.execute (by simp), withLength, if_neg hlength]
  rfl

/-- A command with a fixed argument length leaves what its owning block's reply leaves. -/
theorem State.Executes.fixed {c : Instr} (h : s.Executes r code) (hexec : exec c s = .next (s.executeCode code n body))
    (hlength : r.args.length = n) {reply : Reply} (hreply : body r s.dequeue = reply) :
    exec c s = .next (reply.leaves s r) := by
  rw [hexec, State.executeCode, h.execute (by simp), withLength, if_pos hlength, hreply]

/-- A command whose owning block judges the arguments' length leaves what that block's reply leaves. -/
theorem State.Executes.variable {c : Instr} (h : s.Executes r code)
    (hexec : exec c s = .next (s.execute (fun x => decide (x = code)) body)) {reply : Reply}
    (hreply : body r s.dequeue = reply) : exec c s = .next (reply.leaves s r) := by
  rw [hexec, h.execute (by simp), hreply]

end

/-! ## Which command runs, and its argument length (R163, R175) -/

/-- Command `c` runs on requests of one code, and refuses arguments of another length than `length`, if it fixes one. -/
def RunsCode (c : Instr) (code : Byte) (length : Option Nat) : Prop :=
  ∀ s : State, (s.agent.requests = [] ∨ 4 ≤ s.agent.slotsInUse → exec c s = .next s) ∧
    ∀ r, s.agent.requests.head? = some r →
      (r.command ≠ code → exec c s = .next s) ∧
      ∀ n, r.command = code → s.agent.slotsInUse < 4 → length = some n → r.args.length ≠ n →
        exec c s = .next (s.dequeue.answered r .badArgument [])

theorem runsCode_of_executeCode {c : Instr} {code : Byte} {n : Nat} {body : Request → State → Reply}
    (h : ∀ s, exec c s = .next (s.executeCode code n body)) : RunsCode c code (some n) := fun s => by
  rw [h s]
  refine ⟨fun hidle => congrArg _ (State.execute_of_idle hidle), fun r hr => ⟨fun hother => ?_, fun k hcode hfree hk hlength => ?_⟩⟩
  · exact congrArg _ (State.execute_of_other hr (by simpa using hother))
  · cases hk
    exact congrArg _ (State.Executes.wrongLength ⟨hr, hcode, hfree⟩ hlength)

theorem runsCode_of_execute {c : Instr} {code : Byte} {body : Request → State → Reply}
    (h : ∀ s, exec c s = .next (s.execute (fun x => decide (x = code)) body)) : RunsCode c code none := fun s => by
  rw [h s]
  refine ⟨fun hidle => congrArg _ (State.execute_of_idle hidle), fun r hr => ⟨fun hother => ?_, nofun⟩⟩
  exact congrArg _ (State.execute_of_other hr (by simpa using hother))

/-- RESTART is executed on its own, and refused like any other command. -/
theorem runsCode_restart : RunsCode .restart codeRestart (some 0) := fun s => by
  simp only [exec, execRestart]
  cases hq : s.agent.requests with
  | nil => exact ⟨fun _ => rfl, nofun⟩
  | cons r rest =>
    have hhead : s.agent.requests.head? = some r := by rw [hq, List.head?_cons]
    refine ⟨fun hidle => ?_, fun r' hr' => ?_⟩
    · have hfull : 4 ≤ s.agent.slotsInUse := hidle.resolve_left (List.cons_ne_nil _ _)
      have hnotFree : ¬ s.agent.slotFree = true := fun hfree => by
        rw [Agent.slotFree_iff] at hfree
        exact absurd hfree (Nat.not_lt.2 hfull)
      dsimp only
      rw [if_neg fun h => hnotFree h.2.1, State.execute_of_idle (.inr hfull)]
    · rw [List.head?_cons, Option.some.injEq] at hr'
      subst hr'
      refine ⟨fun hother => ?_, fun n hcode hfree hn hlength => ?_⟩
      · dsimp only
        rw [if_neg fun h => hother h.1, State.execute_of_other hhead (by simpa using hother)]
      · cases hn
        have hargs : r.args ≠ [] := fun h => hlength (by rw [h, List.length_nil])
        dsimp only
        rw [if_neg fun h => hargs h.2.2, State.execute_of_head hhead (by simpa using hcode) hfree]
        rfl

/-- The command code that each command runs on, and its argument length where it is fixed (section 12.2). -/
def codedCommands : List (Instr × Byte × Option Nat) :=
  [(.identify, 0x01, some 0), (.setAddress, 0x02, some 1), (.setAccess, 0x03, none), (.readHeader, 0x10, some 1),
   (.writeHeader, 0x11, some 6), (.readEntries, 0x12, some 3), (.writeEntries, 0x13, none), (.verify, 0x14, some 0),
   (.commit, 0x15, some 1), (.readMonitor, 0x20, some 1), (.writeMonitor, 0x21, some 27),
   (.startMonitor, 0x22, some 1), (.stopMonitor, 0x23, some 1), (.releaseMonitor, 0x24, some 1),
   (.setOverride, 0x28, some 2), (.readStatus, 0x30, some 0), (.readCounters, 0x31, some 2),
   (.setNotice, 0x38, some 4), (.resumeNotice, 0x39, some 0), (.restart, 0x3F, some 0)]

theorem commandCodes_eq : commandCodes = codedCommands.map (·.2.1) := rfl

theorem codedCommands_run : ∀ x ∈ codedCommands, RunsCode x.1 x.2.1 x.2.2 := by
  refine List.forall_iff_forall_mem.1 ⟨?_, ?_, ?_, ?_, ?_, ?_, ?_, ?_, ?_, ?_, ?_, ?_, ?_, ?_, ?_, ?_, ?_, ?_, ?_, ?_⟩
  · exact runsCode_of_executeCode fun _ => rfl
  · exact runsCode_of_executeCode fun _ => rfl
  · exact runsCode_of_execute fun _ => rfl
  · exact runsCode_of_executeCode fun _ => rfl
  · exact runsCode_of_executeCode fun _ => rfl
  · exact runsCode_of_executeCode fun _ => rfl
  · exact runsCode_of_execute fun _ => rfl
  · exact runsCode_of_executeCode fun _ => rfl
  · exact runsCode_of_executeCode fun _ => rfl
  · exact runsCode_of_executeCode fun _ => rfl
  · exact runsCode_of_executeCode fun _ => rfl
  · exact runsCode_of_executeCode fun _ => rfl
  · exact runsCode_of_executeCode fun _ => rfl
  · exact runsCode_of_executeCode fun _ => rfl
  · exact runsCode_of_executeCode fun _ => rfl
  · exact runsCode_of_executeCode fun _ => rfl
  · exact runsCode_of_executeCode fun _ => rfl
  · exact runsCode_of_executeCode fun _ => rfl
  · exact runsCode_of_executeCode fun _ => rfl
  · exact runsCode_restart

theorem exec_badCommand_of_coded {s : State} {r : Request} (hr : s.agent.requests.head? = some r)
    (h : ∃ x ∈ codedCommands, x.2.1 = r.command) : exec .badCommand s = .next s := by
  refine congrArg _ (State.execute_of_other hr ?_)
  rw [Bool.not_eq_false', List.contains_iff_mem, commandCodes_eq]
  exact List.mem_map.2 h

theorem exec_badCommand_of_not_coded {s : State} {r : Request} (hr : s.agent.requests.head? = some r)
    (hfree : s.agent.slotsInUse < 4) (h : ∀ x ∈ codedCommands, x.2.1 ≠ r.command) :
    exec .badCommand s = .next (s.dequeue.answered r .badCommand []) := by
  refine congrArg _ (State.execute_of_head hr ?_ hfree)
  rw [Bool.not_eq_true', ← Bool.not_eq_true, List.contains_iff_mem, commandCodes_eq, List.mem_map]
  rintro ⟨x, hx, e⟩
  exact h x hx e

/-! ## An answer (R160, R164, R165) -/

theorem State.respond_eq (s : State) (p : Port) (a : Byte) (n t : Half) (c : Byte) (u : Status) (b : List Byte) :
    let f : Originated := ⟨a, s.agent.ownAddress, 0xF1, n, be16 t ++ [c, statusCode u] ++ b⟩
    s.respond p a n t c u b = { s with
      agent := { s.agent with
        cache := cacheInsert ⟨p, a, t, f⟩ s.agent.cache
        responses := if (s.link.get p).recorded = .up then s.agent.responses ++ [⟨p, f, false⟩] else s.agent.responses } } := by
  intro f
  simp only [State.respond, State.holdResponse]
  split
  · rename_i hup
    rw [if_pos (show (s.link.get p).recorded = .up from hup)]
    rfl
  · rename_i hdown
    rw [if_neg (show (s.link.get p).recorded ≠ .up from by simp [show (s.link.get p).recorded = .down from hdown])]
    rfl

/-- Settles O53, by what an execution does with the head request, command by command of the table of codes. -/
theorem onlyTheHeadRequestExecutes : Obligations.OnlyTheHeadRequestExecutes := by
  refine ⟨fun s c code length h => codedCommands_run (c, code, length) h s, fun s r hr hfree =>
    ⟨exec_badCommand_of_coded hr, exec_badCommand_of_not_coded hr hfree⟩, fun s c hc => ?_, fun s r u results => ?_⟩
  · obtain ⟨t, e, rfl | ⟨r, rest, hr, -, ⟨t, u, results, -, hu, rfl⟩ | ⟨t, -, rfl⟩⟩⟩ := exec_executed hc s
    · exact .inl e
    · exact .inr ⟨r, t, by rw [hr, List.head?_cons], .inr ⟨u, results, e, hu⟩⟩
    · exact .inr ⟨r, t, by rw [hr, List.head?_cons], .inl e⟩
  · exact ⟨s.respond_eq _ _ _ _ _ _ _, rfl, rfl, rfl⟩

/-! ## IDENTIFY, SET_ADDRESS and SET_ACCESS (R169, R170, R171) -/

/-- Bits 7..2 of a port set are clear (section 12.2). -/
theorem field_portSet_ne_zero_iff (b : Byte) : field b 2 6 ≠ 0 ↔ 4 ≤ b.toNat := by
  revert b
  decide

section

variable {r : Request} {t : State} {ports n : Byte} {sources : List Byte}

/-- SET_ACCESS's arguments are legal values of R159 (R170). -/
def AccessArguments (ports n : Byte) (sources : List Byte) : Prop :=
  sources.length = n.toNat ∧ ports.toNat < 4 ∧ n.toNat ≤ 4 ∧ 255 ∉ sources ∧ sources.Nodup

/-- The access configuration of the arguments keeps the requester in (R170). -/
def Request.Reaches (r : Request) (ports : Byte) (sources : List Byte) : Prop :=
  (portSetOf ports).get r.port = true ∧ (sources = [] ∨ r.source ∈ sources)

theorem setAccess_of_illegal (hargs : r.args = ports :: n :: sources) (h : ¬ AccessArguments ports n sources) :
    setAccess r t = .refused .badArgument := by
  simp only [setAccess, hargs, show byteAt (ports :: n :: sources) 1 = n from rfl,
    show byteAt (ports :: n :: sources) 0 = ports from rfl, List.drop_succ_cons, List.drop_zero, List.length_cons]
  by_cases hlength : sources.length = n.toNat
  · rw [if_neg (by omega), if_pos]
    rw [field_portSet_ne_zero_iff, List.contains_iff_mem]
    by_contra hlegal
    simp only [not_or, not_not, Nat.not_lt, Nat.not_le] at hlegal
    exact h ⟨hlength, hlegal⟩
  · rw [if_pos (by omega)]

theorem setAccess_of_legal (hargs : r.args = ports :: n :: sources) (h : AccessArguments ports n sources) :
    setAccess r t = if ports = 0 then .refused .lockout
      else if (portSetOf ports).get r.port = false then .refused .lockout
      else if sources ≠ [] ∧ r.source ∉ sources then .refused .lockout
      else .done [] { t with agent := { t.agent with portSet := portSetOf ports, sources := sources } } := by
  obtain ⟨hlength, hports, hfew, hlast, hdistinct⟩ := h
  simp only [setAccess, hargs, show byteAt (ports :: n :: sources) 1 = n from rfl,
    show byteAt (ports :: n :: sources) 0 = ports from rfl, List.drop_succ_cons, List.drop_zero, List.length_cons]
  rw [if_neg (by omega), if_neg]
  rw [field_portSet_ne_zero_iff, List.contains_iff_mem]
  simp only [not_or, not_not, Nat.not_lt, Nat.not_le]
  exact ⟨hports, hfew, hlast, hdistinct⟩

theorem setAccess_of_unreachable (hargs : r.args = ports :: n :: sources) (h : AccessArguments ports n sources)
    (hreach : ¬ r.Reaches ports sources) : setAccess r t = .refused .lockout := by
  rw [setAccess_of_legal hargs h]
  by_cases hport : (portSetOf ports).get r.port = true
  · have hsource : sources ≠ [] ∧ r.source ∉ sources := by
      by_contra hsource
      refine hreach ⟨hport, ?_⟩
      by_contra hout
      exact hsource (not_or.1 hout)
    rw [if_neg (by simp [hport] : ¬ (portSetOf ports).get r.port = false), if_pos hsource, ite_self]
  · rw [if_pos (Bool.eq_false_of_not_eq_true hport), ite_self]

theorem setAccess_of_reachable (hargs : r.args = ports :: n :: sources) (h : AccessArguments ports n sources)
    (hreach : r.Reaches ports sources) :
    setAccess r t = .done [] { t with agent := { t.agent with portSet := portSetOf ports, sources := sources } } := by
  obtain ⟨hport, hsource⟩ := hreach
  have hset : ports ≠ 0 := by
    rintro rfl
    cases hp : r.port <;> rw [hp] at hport <;> exact absurd hport (by decide)
  rw [setAccess_of_legal hargs h, if_neg hset, if_neg (by simp [hport]), if_neg]
  rintro ⟨hsome, hout⟩
  exact hsource.elim hsome hout

end

/-! ## Each command leaves what its owning block's reply leaves -/

section

variable {s : State} {r : Request} {reply : Reply}

theorem exec_identify (h : s.Executes r codeIdentify) (hlength : r.args.length = 0) :
    exec .identify s = .next (s.dequeue.answered r .done identity) :=
  h.fixed (body := fun _ t => .done identity t) rfl hlength rfl

theorem exec_setAddress (h : s.Executes r codeSetAddress) (hlength : r.args.length = 1)
    (hreply : (if byteAt r.args 0 = 0 ∨ byteAt r.args 0 = 255 then Reply.refused .badArgument
      else .done [] { s.dequeue with agent := { s.dequeue.agent with ownAddress := byteAt r.args 0 } }) = reply) :
    exec .setAddress s = .next (reply.leaves s r) :=
  h.fixed (body := fun r t => if byteAt r.args 0 = 0 ∨ byteAt r.args 0 = 255 then .refused .badArgument
    else .done [] { t with agent := { t.agent with ownAddress := byteAt r.args 0 } }) rfl hlength hreply

theorem exec_setAccess (h : s.Executes r codeSetAccess) (hreply : setAccess r s.dequeue = reply) :
    exec .setAccess s = .next (reply.leaves s r) := h.variable rfl hreply

theorem exec_writeEntries (h : s.Executes r codeWriteEntries) (hreply : writeEntries r s.dequeue = reply) :
    exec .writeEntries s = .next (reply.leaves s r) := h.variable rfl hreply

theorem exec_verify (h : s.Executes r codeVerify) (hlength : r.args.length = 0) (hreply : verify s.dequeue = reply) :
    exec .verify s = .next (reply.leaves s r) := h.fixed (body := fun _ t => verify t) rfl hlength hreply

theorem exec_resumeNotice (h : s.Executes r codeResumeNotice) (hlength : r.args.length = 0)
    (hreply : resumeNotice s.dequeue = reply) : exec .resumeNotice s = .next (reply.leaves s r) :=
  h.fixed (body := fun _ t => resumeNotice t) rfl hlength hreply

theorem exec_readStatus (h : s.Executes r codeReadStatus) (hlength : r.args.length = 0) :
    exec .readStatus s = .next (s.dequeue.answered r .done s.dequeue.statusReport) :=
  h.fixed (body := fun _ t => .done t.statusReport t) rfl hlength rfl

theorem exec_readHeader (h : s.Executes r codeReadHeader) (hlength : r.args.length = 1)
    (hreply : readHeader r s.dequeue = reply) : exec .readHeader s = .next (reply.leaves s r) := h.fixed rfl hlength hreply

theorem exec_writeHeader (h : s.Executes r codeWriteHeader) (hlength : r.args.length = 6)
    (hreply : writeHeader r s.dequeue = reply) : exec .writeHeader s = .next (reply.leaves s r) := h.fixed rfl hlength hreply

theorem exec_readEntries (h : s.Executes r codeReadEntries) (hlength : r.args.length = 3)
    (hreply : readEntries r s.dequeue = reply) : exec .readEntries s = .next (reply.leaves s r) := h.fixed rfl hlength hreply

theorem exec_commit (h : s.Executes r codeCommit) (hlength : r.args.length = 1)
    (hreply : commit r s.dequeue = reply) : exec .commit s = .next (reply.leaves s r) := h.fixed rfl hlength hreply

theorem exec_readMonitor (h : s.Executes r codeReadMonitor) (hlength : r.args.length = 1)
    (hreply : readMonitor r s.dequeue = reply) : exec .readMonitor s = .next (reply.leaves s r) := h.fixed rfl hlength hreply

theorem exec_writeMonitor (h : s.Executes r codeWriteMonitor) (hlength : r.args.length = 27)
    (hreply : writeMonitor r s.dequeue = reply) : exec .writeMonitor s = .next (reply.leaves s r) := h.fixed rfl hlength hreply

theorem exec_startMonitor (h : s.Executes r codeStartMonitor) (hlength : r.args.length = 1)
    (hreply : startMonitor r s.dequeue = reply) : exec .startMonitor s = .next (reply.leaves s r) := h.fixed rfl hlength hreply

theorem exec_stopMonitor (h : s.Executes r codeStopMonitor) (hlength : r.args.length = 1)
    (hreply : stopMonitor r s.dequeue = reply) : exec .stopMonitor s = .next (reply.leaves s r) := h.fixed rfl hlength hreply

theorem exec_releaseMonitor (h : s.Executes r codeReleaseMonitor) (hlength : r.args.length = 1)
    (hreply : releaseMonitor r s.dequeue = reply) : exec .releaseMonitor s = .next (reply.leaves s r) := h.fixed rfl hlength hreply

theorem exec_setOverride (h : s.Executes r codeSetOverride) (hlength : r.args.length = 2)
    (hreply : setOverride r s.dequeue = reply) : exec .setOverride s = .next (reply.leaves s r) := h.fixed rfl hlength hreply

theorem exec_setNotice (h : s.Executes r codeSetNotice) (hlength : r.args.length = 4)
    (hreply : setNotice r s.dequeue = reply) : exec .setNotice s = .next (reply.leaves s r) := h.fixed rfl hlength hreply

end

/-- Settles O54, by the checks of each command in order. -/
theorem theAgentObeys : Obligations.TheAgentObeys := by
  intro s r refused a
  refine ⟨fun h hargs => exec_identify h (by rw [hargs]; rfl), fun v h hargs => ⟨fun hv => ?_, fun hzero hlast => ?_⟩,
    fun h hlength => ?_, ?_⟩
  · exact exec_setAddress (reply := .refused .badArgument) h (by rw [hargs]; rfl) (by rw [hargs]; exact if_pos hv)
  · exact exec_setAddress (reply := .done [] { s.dequeue with agent := { a with ownAddress := v } }) h
      (by rw [hargs]; rfl) (by rw [hargs]; exact if_neg (not_or.2 ⟨hzero, hlast⟩))
  · exact exec_setAccess h (if_pos (.inl hlength))
  · intro ports n sources h hargs legal here reachable
    have hreach : reachable ↔ r.Reaches ports sources := by
      have hhere : here ↔ (portSetOf ports).get r.port = true := by
        simp only [here]
        cases r.port <;> exact Iff.rfl
      exact and_congr_left' hhere
    exact ⟨fun hlegal => exec_setAccess h (setAccess_of_illegal hargs hlegal),
      fun hlegal hout => exec_setAccess h (setAccess_of_unreachable hargs hlegal (mt hreach.2 hout)),
      fun hlegal hin => exec_setAccess h (setAccess_of_reachable hargs hlegal (hreach.1 hin))⟩

end Sys2Proof.Machine
end

section
/-! PROOFS. The table service (chapter 8): its commands, its examination, its copy, and the report of their results. -/

namespace Sys2Proof.Machine

set_option Elab.async false

/-! ## Entries read and written (R121, R122) -/

theorem entriesOf_eq_some_iff {n : Nat} {bs : List Byte} {es : List Entry} :
    entriesOf n bs = some es ↔ es.length = n ∧ ∀ i, i < n → entryOf ((bs.drop (16 * i)).take 16) = es[i]? := by
  induction n generalizing bs es with
  | zero =>
    simp only [entriesOf, Option.some.injEq, Nat.not_lt_zero, IsEmpty.forall_iff, implies_true, and_true]
    exact ⟨fun h => h ▸ rfl, fun h => (List.eq_nil_of_length_eq_zero h).symm⟩
  | succ n ih =>
    simp only [entriesOf, Option.bind_eq_bind, Option.bind_eq_some_iff, ih, Option.some.injEq]
    constructor
    · rintro ⟨e, he, rest, ⟨hlength, hrest⟩, rfl⟩
      refine ⟨by rw [List.length_cons, hlength], fun i hi => ?_⟩
      cases i with
      | zero => exact he
      | succ i =>
        rw [List.getElem?_cons_succ, ← hrest i (by omega), List.drop_drop]
        congr 3
        omega
    · rintro ⟨hlength, hentries⟩
      cases es with
      | nil => cases hlength
      | cons e rest =>
        refine ⟨e, hentries 0 (by omega), rest, ⟨Nat.succ.inj hlength, fun i hi => ?_⟩, rfl⟩
        have hnext := hentries (i + 1) (by omega)
        rw [List.getElem?_cons_succ] at hnext
        rw [← hnext, List.drop_drop]
        congr 3
        omega

theorem entriesOf_isSome {n : Nat} {bs : List Byte} (h : ∀ i, i < n → entryOf ((bs.drop (16 * i)).take 16) ≠ none) :
    ∃ es, entriesOf n bs = some es := by
  induction n generalizing bs with
  | zero => exact ⟨[], rfl⟩
  | succ n ih =>
    obtain ⟨e, he⟩ := Option.ne_none_iff_exists'.1 (h 0 (by omega))
    obtain ⟨es, hes⟩ := ih (bs := bs.drop 16) fun i hi => by
      rw [List.drop_drop, show 16 + 16 * i = 16 * (i + 1) by omega]
      exact h (i + 1) (by omega)
    have hhead : entryOf (bs.take 16) = some e := he
    exact ⟨e :: es, by simp only [entriesOf, hhead, hes, Option.bind_eq_bind, Option.bind_some]⟩

theorem entriesOf_eq_none {n : Nat} {bs : List Byte} (h : ∃ i, i < n ∧ entryOf ((bs.drop (16 * i)).take 16) = none) :
    entriesOf n bs = none := by
  obtain ⟨i, hi, hnone⟩ := h
  cases hes : entriesOf n bs with
  | none => rfl
  | some es =>
    obtain ⟨hlength, hentries⟩ := entriesOf_eq_some_iff.1 hes
    rw [hentries i hi, List.getElem?_eq_none_iff] at hnone
    omega

theorem writeEntriesFrom_getElem (es : List Entry) (first : Nat) (v : Vector Entry 256) (j : Fin 256) :
    some (writeEntriesFrom first es v)[j] =
      if first ≤ j.val ∧ j.val < first + es.length then es[j.val - first]? else some v[j] := by
  induction es generalizing first v with
  | nil => rw [if_neg (by simp only [List.length_nil]; omega), writeEntriesFrom]
  | cons e es ih =>
    rw [writeEntriesFrom, ih]
    by_cases hj : first = j.val
    · subst hj
      rw [if_neg (by omega), if_pos (by simp), Nat.sub_self]
      simp
    · by_cases hrange : first + 1 ≤ j.val ∧ j.val < first + 1 + es.length
      · have hnext : j.val - first = (j.val - (first + 1)) + 1 := by omega
        rw [if_pos hrange, if_pos (by simp only [List.length_cons]; omega), hnext, List.getElem?_cons_succ]
      · rw [if_neg hrange, if_neg (by simp only [List.length_cons]; omega)]
        simp [hj]

theorem legalRange_iff (first n : Nat) : legalRange first n = true ↔ 1 ≤ n ∧ n ≤ 16 ∧ first + n ≤ 256 := by
  simp [legalRange, and_assoc]

/-! ## Selectors and modes (section 12.2) -/

theorem selectorOf_eq_none {x : Byte} (h : 1 < x.toNat) : selectorOf x = none := by
  revert x
  decide

theorem commitModeOf_eq_some {x : Byte} (h : x = 1 ∨ x = 2) :
    commitModeOf x = some (if x = 1 then .keep else .copy) := by
  revert x
  decide

theorem commitModeOf_eq_none {x : Byte} (hkeep : x ≠ 1) (hcopy : x ≠ 2) : commitModeOf x = none := by
  rw [commitModeOf, if_neg hkeep, if_neg hcopy]

/-- The selector names bank `k` for a read (R119, R122). -/
def State.Reads (s : State) (x : Byte) (k : BankId) : Prop :=
  (x = 0 ∧ k = s.engine.activeBank) ∨ (x = 1 ∧ k = s.engine.activeBank.other ∧ s.tables.state ≠ .copying)

theorem State.Reads.selected {s : State} {x : Byte} {k : BankId} (h : s.Reads x k) :
    ∃ active, selectorOf x = some active ∧ s.selectBank active = k ∧ s.readBusy active = false := by
  obtain ⟨rfl, rfl⟩ | ⟨rfl, rfl, hstate⟩ := h
  · exact ⟨true, rfl, rfl, rfl⟩
  · exact ⟨false, rfl, rfl, by simpa [State.readBusy] using hstate⟩

/-! ## What the owning block answers -/

section

variable {r : Request} {t : State} {x : Byte} {k : BankId}

theorem readHeader_of_reads (hx : byteAt r.args 0 = x) (h : t.Reads x k) :
    readHeader r t = .done (k.code :: headerBytes (t.bank k).header) t := by
  obtain ⟨active, hselector, hbank, hbusy⟩ := h.selected
  simp only [readHeader, hx, hselector, hbusy, hbank, Bool.false_eq_true, if_false]

theorem readHeader_of_copying (hx : byteAt r.args 0 = 1) (hstate : t.tables.state = .copying) :
    readHeader r t = .refused .busy := by
  rw [readHeader, hx]
  exact if_pos (by simp [State.readBusy, hstate])

theorem readHeader_of_illegal (h : 1 < (byteAt r.args 0).toNat) : readHeader r t = .refused .badArgument := by
  rw [readHeader, selectorOf_eq_none h]

theorem readEntries_of_reads (hx : byteAt r.args 0 = x) (h : t.Reads x k)
    (hlegal : legalRange (byteAt r.args 1).toNat (byteAt r.args 2).toNat = true) :
    readEntries r t = .done ([k.code, byteAt r.args 1, byteAt r.args 2] ++
      (entriesFrom (t.bank k) (byteAt r.args 1).toNat (byteAt r.args 2).toNat).flatMap entryBytes) t := by
  obtain ⟨active, hselector, hbank, hbusy⟩ := h.selected
  simp only [readEntries, hx, hselector, hlegal, hbusy, hbank, Bool.false_eq_true, Bool.true_eq_false, if_false]

theorem readEntries_of_copying (hx : byteAt r.args 0 = 1) (hstate : t.tables.state = .copying)
    (hlegal : legalRange (byteAt r.args 1).toNat (byteAt r.args 2).toNat = true) : readEntries r t = .refused .busy := by
  simp only [readEntries, hx, show selectorOf 1 = some false from rfl, hlegal, Bool.true_eq_false, if_false]
  exact if_pos (by simp [State.readBusy, hstate])

theorem readEntries_of_illegal (h : ¬ legalRange (byteAt r.args 1).toNat (byteAt r.args 2).toNat = true ∨
    1 < (byteAt r.args 0).toNat) : readEntries r t = .refused .badArgument := by
  simp only [readEntries]
  cases hselector : selectorOf (byteAt r.args 0) with
  | none => rfl
  | some active =>
    obtain hrange | hx := h
    · exact if_pos (Bool.eq_false_of_not_eq_true hrange)
    · cases hselector.symm.trans (selectorOf_eq_none hx)

theorem tablesIdle_eq_false_iff : t.tablesIdle = false ↔ t.tables.state ≠ .idle := by
  simp [State.tablesIdle]

theorem writeHeader_of_busy (h : t.tables.state ≠ .idle) : writeHeader r t = .refused .busy :=
  if_pos (tablesIdle_eq_false_iff.2 h)

theorem writeHeader_of_idle (h : t.tables.state = .idle) : writeHeader r t =
    match headerOf r.args with
    | none => .refused .badArgument
    | some h => .done [] (t.writeShadow { t.bank t.shadow with header := h }) :=
  if_neg (mt tablesIdle_eq_false_iff.1 (not_not.2 h))

/-- WRITE_ENTRIES's arguments have the length that their count gives, and a legal range (R121, R163). -/
def EntryArguments (first n : Byte) (body : List Byte) : Prop :=
  body.length = 16 * n.toNat ∧ 1 ≤ n.toNat ∧ n.toNat ≤ 16 ∧ first.toNat + n.toNat ≤ 256

variable {first n : Byte} {body : List Byte}

theorem writeEntries_of_illegal (hargs : r.args = first :: n :: body) (h : ¬ EntryArguments first n body) :
    writeEntries r t = .refused .badArgument := by
  simp only [writeEntries, hargs, show byteAt (first :: n :: body) 1 = n from rfl,
    show byteAt (first :: n :: body) 0 = first from rfl, List.length_cons]
  by_cases hlength : body.length = 16 * n.toNat
  · have hrange : legalRange first.toNat n.toNat = false := by
      rw [← Bool.not_eq_true, legalRange_iff]
      exact fun hrange => h ⟨hlength, hrange⟩
    rw [if_pos hrange, ite_self]
  · rw [if_pos (by omega)]

theorem writeEntries_of_legal (hargs : r.args = first :: n :: body) (h : EntryArguments first n body) :
    writeEntries r t =
      if t.tablesIdle = false then .refused .busy
      else match entriesOf n.toNat body with
        | none => .refused .badArgument
        | some es => .done [] (t.writeShadow
            { t.bank t.shadow with entries := writeEntriesFrom first.toNat es (t.bank t.shadow).entries }) := by
  obtain ⟨hlength, hrange⟩ := h
  have hlegal : legalRange first.toNat n.toNat = true := (legalRange_iff _ _).2 hrange
  simp only [writeEntries, hargs, show byteAt (first :: n :: body) 1 = n from rfl,
    show byteAt (first :: n :: body) 0 = first from rfl, List.length_cons, List.drop_succ_cons, List.drop_zero, hlegal]
  exact (if_neg (by omega)).trans (if_neg nofun)

theorem verify_of_busy (h : t.tables.state ≠ .idle) : verify t = .refused .busy :=
  if_pos (tablesIdle_eq_false_iff.2 h)

theorem verify_of_idle (h : t.tables.state = .idle) :
    verify t = .accepted { t with tables := { t.tables with state := .verifying, verify := .unverified } } :=
  if_neg (mt tablesIdle_eq_false_iff.1 (not_not.2 h))

theorem commit_of_mode (h : byteAt r.args 0 = 1 ∨ byteAt r.args 0 = 2) :
    commit r t =
      if t.tablesIdle = false then .refused .busy
      else if t.tables.verify ≠ .passed then .refused .notVerified
      else .accepted { t with
        tables := { t.tables with state := .switchPending (if byteAt r.args 0 = 1 then .keep else .copy) }
        engine := { t.engine with switchPosted := true, takeMayPrecede := t.takeMeetsRequest } } := by
  rw [commit, commitModeOf_eq_some h]

end

/-- A replacement of the shadow bank (R34, R123). -/
theorem State.writeShadow_eq (s : State) (b : Bank) :
    let t := s.writeShadow b
    t = { s with tables := { s.tables with banks := t.tables.banks, verify := .unverified } } ∧
      t.bank s.engine.activeBank = s.bank s.engine.activeBank ∧ t.bank s.engine.activeBank.other = b := by
  intro t
  simp only [t, State.writeShadow, State.shadow]
  cases s.engine.activeBank <;> exact ⟨rfl, rfl, rfl⟩

/-- Settles O55, command by command, from what the table service answers. -/
theorem theTableServiceObeys : Obligations.TheTableServiceObeys := by
  intro s r refused active read written
  have hwritten : ∀ (c : Instr) (b : Bank), exec c s = .next ((s.dequeue.writeShadow b).answered r .done []) →
      written c b := fun c b h => ⟨s.dequeue.writeShadow b, h, s.dequeue.writeShadow_eq b⟩
  refine ⟨fun x h hargs => ?_, fun h hlength => ?_, ?_, fun h hlength => ?_, ?_, fun h hargs => ?_, fun x h hargs => ?_⟩
  · have hlength : r.args.length = 1 := by rw [hargs]; rfl
    have hx : byteAt r.args 0 = x := by rw [hargs]; rfl
    refine ⟨fun k hread => exec_readHeader h hlength (readHeader_of_reads (t := s.dequeue) hx hread),
      fun hshadow hstate => exec_readHeader h hlength (readHeader_of_copying (t := s.dequeue) (hx.trans hshadow) hstate),
      fun hlarge => exec_readHeader h hlength (readHeader_of_illegal (by rwa [hx]))⟩
  · refine ⟨fun hbusy => exec_writeHeader h hlength (writeHeader_of_busy (t := s.dequeue) hbusy), fun hidle hnone => ?_,
      fun hdr hidle hsome => hwritten _ _ ?_⟩
    · exact exec_writeHeader h hlength ((writeHeader_of_idle (t := s.dequeue) hidle).trans (by rw [hnone]))
    · exact exec_writeHeader h hlength ((writeHeader_of_idle (t := s.dequeue) hidle).trans (by rw [hsome]))
  · intro x first n h hargs legal
    have hlength : r.args.length = 3 := by rw [hargs]; rfl
    have hx : byteAt r.args 0 = x := by rw [hargs]; rfl
    have hfirst : byteAt r.args 1 = first := by rw [hargs]; rfl
    have hn : byteAt r.args 2 = n := by rw [hargs]; rfl
    have hrange : legalRange (byteAt r.args 1).toNat (byteAt r.args 2).toNat = true ↔ legal := by
      rw [hfirst, hn]
      exact legalRange_iff _ _
    refine ⟨fun k hlegal hread => ?_, fun hlegal hshadow hstate => ?_, fun hbad => ?_⟩
    · have hreply := readEntries_of_reads (t := s.dequeue) hx hread (hrange.2 hlegal)
      rw [hfirst, hn, entriesFrom, List.flatMap_map] at hreply
      exact exec_readEntries h hlength hreply
    · exact exec_readEntries h hlength
        (readEntries_of_copying (t := s.dequeue) (hx.trans hshadow) hstate (hrange.2 hlegal))
    · exact exec_readEntries h hlength (readEntries_of_illegal (by rwa [hrange, hx]))
  · exact exec_writeEntries h (if_pos (.inl hlength))
  · intro first n body h hargs legal entry
    refine ⟨fun hbad => exec_writeEntries h (writeEntries_of_illegal hargs hbad), fun hlegal hbusy => ?_,
      fun hlegal hidle hnone => ?_, fun hlegal hidle hall => ?_⟩
    · exact exec_writeEntries h ((writeEntries_of_legal (t := s.dequeue) hargs hlegal).trans
        (if_pos (tablesIdle_eq_false_iff.2 hbusy)))
    · have hreply := writeEntries_of_legal (t := s.dequeue) hargs hlegal
      rw [if_neg (mt (tablesIdle_eq_false_iff (t := s.dequeue)).1 (not_not.2 hidle)), entriesOf_eq_none hnone] at hreply
      exact exec_writeEntries h hreply
    · obtain ⟨es, hes⟩ := entriesOf_isSome hall
      obtain ⟨hcount, hentries⟩ := entriesOf_eq_some_iff.1 hes
      have hreply := writeEntries_of_legal (t := s.dequeue) hargs hlegal
      rw [if_neg (mt (tablesIdle_eq_false_iff (t := s.dequeue)).1 (not_not.2 hidle)), hes] at hreply
      refine ⟨_, hwritten _ _ (exec_writeEntries h hreply), rfl, fun j => ?_⟩
      refine (writeEntriesFrom_getElem es first.toNat _ j).trans ?_
      rw [hcount]
      split
      next hj => exact (hentries _ (by omega)).symm
      next => rfl
  · have hlength : r.args.length = 0 := by rw [hargs]; rfl
    exact ⟨fun hbusy => exec_verify h hlength (verify_of_busy (t := s.dequeue) hbusy),
      fun hidle => exec_verify h hlength (verify_of_idle (t := s.dequeue) hidle)⟩
  · have hlength : r.args.length = 1 := by rw [hargs]; rfl
    have hx : byteAt r.args 0 = x := by rw [hargs]; rfl
    refine ⟨fun hkeep hcopy => ?_, fun hmode hbusy => ?_, fun hmode hidle hverify => ?_, fun hmode hidle hverify => ?_⟩
    · have hreply : commit r s.dequeue = .refused .badArgument := by rw [commit, hx, commitModeOf_eq_none hkeep hcopy]
      exact exec_commit h hlength hreply
    · have hreply := commit_of_mode (r := r) (t := s.dequeue) (by rwa [hx])
      rw [if_pos ((tablesIdle_eq_false_iff (t := s.dequeue)).2 hbusy)] at hreply
      exact exec_commit h hlength hreply
    · have hreply := commit_of_mode (r := r) (t := s.dequeue) (by rwa [hx])
      rw [if_neg (mt (tablesIdle_eq_false_iff (t := s.dequeue)).1 (not_not.2 hidle)),
        if_pos (show s.dequeue.tables.verify ≠ .passed from hverify)] at hreply
      exact exec_commit h hlength hreply
    · have hreply := commit_of_mode (r := r) (t := s.dequeue) (by rwa [hx])
      rw [if_neg (mt (tablesIdle_eq_false_iff (t := s.dequeue)).1 (not_not.2 hidle)),
        if_neg (show ¬ s.dequeue.tables.verify ≠ .passed from not_not.2 hverify), hx] at hreply
      exact exec_commit h hlength hreply

end Sys2Proof.Machine
end

section
/-! PROOFS. The end of an examination or of a copy, and the report that answers the request waiting for it (O56). -/

namespace Sys2Proof.Machine
set_option Elab.async false

theorem State.holdResponse_eq (s : State) (p : Port) (f : Originated) :
    s.holdResponse p f = { s with
      agent := { s.agent with
        responses := if (s.link.get p).recorded = .up then s.agent.responses ++ [⟨p, f, false⟩] else s.agent.responses } } := by
  simp only [State.holdResponse]
  split
  next hup => rw [if_pos hup]
  next hdown => rw [if_neg (by rw [hdown]; decide)]

/-- The response of a report is entered in the cache, and in its slot where one is still reserved (R163, R165, R166). -/
theorem State.respondReported_eq (s : State) (q : PendingResult) (x : Report) :
    let f : Originated := ⟨q.source, s.agent.ownAddress, 0xF1, q.seq, be16 q.tag ++ [q.command, 0] ++ reportBytes x⟩
    s.respondReported q x = { s with
      agent := { s.agent with
        cache := cacheInsert ⟨q.port, q.source, q.tag, f⟩ s.agent.cache
        responses := if q.slotReserved = true ∧ (s.link.get q.port).recorded = .up then
            s.agent.responses ++ [⟨q.port, f, false⟩]
          else s.agent.responses } } := by
  intro f
  simp only [State.respondReported]
  split
  next hslot =>
    rw [State.holdResponse_eq]
    simp only [hslot, true_and]
    rfl
  next hslot => rw [if_neg (hslot ·.1)]; rfl

/-- Settles O56: each of the three commands answers the state that its definition builds; the copied bank is the active
one, and a report's bytes go by its kind. -/
theorem resultsFollowLater : Obligations.ResultsFollowLater := by
  refine ⟨?_, ?_, ?_⟩
  · intro s hstate v
    rw [exec, execVerifyExaminationComplete, hstate]
    rfl
  · intro s hstate active
    have hbanks := s.setBank_eq s.shadow (s.bank s.engine.activeBank)
    refine ⟨(s.setBank s.shadow (s.bank active)).completeCommit .copy, by rw [exec, execCopyComplete, hstate], ?_,
      s.bank_setBank_of_ne _ s.shadow_ne_active.symm, s.bank_setBank_same _ _⟩
    exact congrArg (State.completeCommit · .copy) hbanks
  · intro s x reports q rest hreports hresults results f others
    have hbytes : reportBytes x = results := by
      rcases x with (_ | _ | ⟨_, _ | _ | _⟩) | _ <;> rfl
    rw [exec, execResultReport, hreports, hresults]
    refine congrArg Host.Outcome.next ((State.respondReported_eq _ q x).trans ?_)
    rw [hbytes]
    rfl

end Sys2Proof.Machine
end

section
/-! PROOFS. What the commands of the monitor unit and of the disposition unit reply, case by case (O57). -/

namespace Sys2Proof.Machine
set_option Elab.async false

/-! ## Replies -/

section
variable {s t : State} {r : Request} {m : MonitorId} {x : Byte}

theorem withMonitor_of_monitor (hx : (byteAt r.args 0).toNat = m.val) (k : MonitorId → Reply) : withMonitor r k = k m := by
  rw [withMonitor, monitorOf_eq_some_iff.2 hx]

theorem withMonitor_of_illegal (hx : 48 ≤ (byteAt r.args 0).toNat) (k : MonitorId → Reply) :
    withMonitor r k = .refused .badArgument := by
  have hnone : monitorOf (byteAt r.args 0) = none := dif_neg (not_lt.2 hx)
  rw [withMonitor, hnone]

theorem stopMonitor_of_clear (hx : (byteAt r.args 0).toNat = m.val) (hon : (t.monitor m).run.state ≠ .off)
    (hclear : isEngaged (t.monitor m).run.state = false) :
    stopMonitor r t = .done [] (t.setMonitor m { t.monitor m with run := .off }) := by
  rw [stopMonitor, withMonitor_of_monitor hx]
  simp only [if_neg hon, hclear]
  rfl

theorem stopMonitor_of_engaged (hx : (byteAt r.args 0).toNat = m.val) (hon : (t.monitor m).run.state ≠ .off)
    (hengaged : isEngaged (t.monitor m).run.state = true) :
    stopMonitor r t = .done [] (t.makeTransition m ⟨.off, none, some false⟩) := by
  rw [stopMonitor, withMonitor_of_monitor hx]
  simp only [if_neg hon, hengaged, if_true]

theorem monitorBytes_eq (v : Monitor) : monitorBytes v =
    configBytes v.config ++ [monitorStateCode v.run.state, byteOf v.run.latchCounter] ++
      (match v.run.lastSample with
       | none => [0, 0, 0, 0, 0]
       | some v => 1 :: be32 v) ++
      [v.run.delay, v.run.recovery, v.run.silence, v.run.decay, v.run.expiry].flatMap
        fun t => be32 (BitVec.ofNat 32 (t.getD 0)) := by
  simp only [monitorBytes, timerBytes, List.flatMap_cons, List.flatMap_nil, List.append_nil, List.append_assoc] <;> rfl

theorem overrideOf_eq_none (h : 2 < x.toNat) : overrideOf x = none := by
  revert x; decide

theorem overrideOf_code (o : Override) : overrideOf (match o with
    | .auto => 0
    | .forcePass => 1
    | .forceBlock => 2) = some o := by
  cases o <;> rfl

theorem setOverride_of_illegal (h : 32 ≤ (byteAt r.args 0).toNat ∨ 2 < (byteAt r.args 1).toNat) :
    setOverride r t = .refused .badArgument := by
  obtain hclass | hoverride := h
  · have hnone : classOf (byteAt r.args 0) = none := dif_neg (not_lt.2 hclass)
    rw [setOverride, hnone]
  · rw [setOverride, overrideOf_eq_none hoverride]
    cases classOf (byteAt r.args 0) <;> rfl

theorem setOverride_of_legal {c : ClassId} {o : Override} (hx : (byteAt r.args 0).toNat = c.val)
    (ho : overrideOf (byteAt r.args 1) = some o) :
    let k := t.classState c
    let new := effectiveOf o k.engaged
    setOverride r t = .done [byteOf (dispositionCode new)] { t with
      classes := t.classes.set c.val ⟨o, k.engaged, new⟩ c.isLt
      events := if new = k.effective then t.events
        else t.events.append t.time .dispositionChange (byteOf c.val) (byteOf (dispositionCode new)) 256
      store := { t.store with
        purges := if new ≠ k.effective ∧ new = .block then t.store.purges ++ [c] else t.store.purges } } := by
  intro k new
  have hafter := t.recompute_setClass c { k with override := o } 256 k.effective rfl
  have heffective : (((t.setClass c { k with override := o }).recompute c 256).classState c).effective = new := by
    rw [hafter]
    simp [State.classState, new]
  simp only [setOverride, classOf_eq_some_iff.2 hx, ho]
  rw [show t.classState c = k from rfl, heffective, hafter]

end

/-! ## The obligation -/

/-- A command that names a monitor refuses every number from 48 on (R88, R89, R90, R101, R175). -/
theorem exec_named_of_illegal {s : State} {r : Request} {c : Instr} {code x : Byte}
    (hc : (c, code) ∈ [(Instr.readMonitor, (0x20 : Byte)), (.startMonitor, 0x22), (.stopMonitor, 0x23), (.releaseMonitor, 0x24)])
    (h : s.Executes r code) (hargs : r.args = [x]) (hx : 48 ≤ x.toNat) :
    exec c s = .next (s.dequeue.answered r .badArgument []) := by
  have hlength : r.args.length = 1 := by rw [hargs]; rfl
  have hlarge : 48 ≤ (byteAt r.args 0).toNat := by rw [hargs]; exact hx
  simp only [List.mem_cons, Prod.mk.injEq, List.not_mem_nil, or_false] at hc
  obtain ⟨rfl, rfl⟩ | ⟨rfl, rfl⟩ | ⟨rfl, rfl⟩ | ⟨rfl, rfl⟩ := hc
  · exact exec_readMonitor (reply := .refused .badArgument) h hlength (withMonitor_of_illegal hlarge _)
  · exact exec_startMonitor (reply := .refused .badArgument) h hlength (withMonitor_of_illegal hlarge _)
  · exact exec_stopMonitor (reply := .refused .badArgument) h hlength (withMonitor_of_illegal hlarge _)
  · exact exec_releaseMonitor (reply := .refused .badArgument) h hlength (withMonitor_of_illegal hlarge _)

/-- Settles O57: each command names its monitor or class by a legal number and replies as the monitor's state says. -/
theorem monitorsAndClassesObey : Obligations.MonitorsAndClassesObey := by
  intro s r refused done put named
  refine ⟨fun c code x hc h hargs hx => exec_named_of_illegal hc h hargs hx, ?_, ?_, ?_⟩
  · intro m x c k number off
    have hnumber : number.toNat = m.val := (byteOf_toNat m.val).trans (by omega)
    have hnamed : ∀ {args}, r.args = number :: args → (byteAt r.args 0).toNat = m.val := fun hargs => by
      rw [hargs]; exact hnumber
    have hone : r.args = [number] → r.args.length = 1 := fun hargs => by rw [hargs]; rfl
    refine ⟨fun h hargs => ?_, fun record h hargs hrecord => ?_, fun h hargs => ?_, fun h hargs => ?_, fun h hargs => ?_⟩
    · have hreply : readMonitor r s.dequeue = .done (byteAt r.args 0 :: monitorBytes x) s.dequeue :=
        withMonitor_of_monitor (hnamed hargs) _
      rw [monitorBytes_eq, hargs] at hreply
      exact exec_readMonitor h (hone hargs) hreply
    · have hlength : r.args.length = 27 := by rw [hargs, List.length_cons, hrecord]
      have hdrop : r.args.drop 1 = record := by rw [hargs]; rfl
      have hreply : writeMonitor r s.dequeue = _ := withMonitor_of_monitor (hnamed hargs) _
      rw [hdrop] at hreply
      refine ⟨fun hon => ?_, fun hoff hnone => ?_, fun c' hoff hsome => ?_⟩
      · rw [if_pos (show (s.dequeue.monitor m).run.state ≠ .off from hon)] at hreply
        exact exec_writeMonitor h hlength hreply
      · rw [if_neg (show ¬ (s.dequeue.monitor m).run.state ≠ .off from not_not.2 hoff), hnone] at hreply
        exact exec_writeMonitor h hlength hreply
      · rw [if_neg (show ¬ (s.dequeue.monitor m).run.state ≠ .off from not_not.2 hoff), hsome] at hreply
        exact exec_writeMonitor h hlength hreply
    · have hreply : startMonitor r s.dequeue = _ := withMonitor_of_monitor (hnamed hargs) _
      refine ⟨fun hon => ?_, fun hoff => ?_⟩
      · exact exec_startMonitor h (hone hargs) (hreply.trans (if_pos hon))
      · exact exec_startMonitor h (hone hargs) (hreply.trans (if_neg (not_not.2 hoff)))
    · have hreply : stopMonitor r s.dequeue = _ := withMonitor_of_monitor (hnamed hargs) _
      refine ⟨fun hoff => ?_, fun hclear => ?_, fun hengaged => ?_⟩
      · exact exec_stopMonitor h (hone hargs) (hreply.trans (if_pos hoff))
      · have hon : x.run.state ≠ .off ∧ isEngaged x.run.state = false := by
          obtain h | h := hclear <;> exact h ▸ by decide
        exact exec_stopMonitor h (hone hargs) (stopMonitor_of_clear (t := s.dequeue) (hnamed hargs) hon.1 hon.2)
      · have hon : x.run.state ≠ .off ∧ isEngaged x.run.state = true := by
          obtain h | h | h := hengaged <;> exact h ▸ by decide
        exact exec_stopMonitor h (hone hargs) (stopMonitor_of_engaged (t := s.dequeue) (hnamed hargs) hon.1 hon.2)
    · have hreply : releaseMonitor r s.dequeue = _ := withMonitor_of_monitor (hnamed hargs) _
      refine ⟨fun hother => ?_, fun hlatched => ?_⟩
      · exact exec_releaseMonitor h (hone hargs) (hreply.trans (if_pos hother))
      · exact exec_releaseMonitor h (hone hargs) (hreply.trans (if_neg (not_not.2 hlatched)))
  · intro x record h hargs hrecord hx
    have hlength : r.args.length = 27 := by rw [hargs, List.length_cons, hrecord]
    have hlarge : 48 ≤ (byteAt r.args 0).toNat := by rw [hargs]; exact hx
    exact exec_writeMonitor (reply := .refused .badArgument) h hlength (withMonitor_of_illegal hlarge _)
  · intro x y h hargs
    have hlength : r.args.length = 2 := by rw [hargs]; rfl
    have hfirst : byteAt r.args 0 = x := by rw [hargs]; rfl
    have hsecond : byteAt r.args 1 = y := by rw [hargs]; rfl
    refine ⟨fun hbad => ?_, fun c o hx hy => ?_⟩
    · exact exec_setOverride (reply := .refused .badArgument) h hlength (setOverride_of_illegal (by rwa [hfirst, hsecond]))
    · have ho : overrideOf (byteAt r.args 1) = some o := by
        rw [hsecond, hy]
        exact overrideOf_code o
      have hbyte : byteOf c.val = x := by rw [← hx]; exact byteOf_byte_toNat x
      have hreply := setOverride_of_legal (t := s.dequeue) (by rwa [hfirst]) ho
      rw [hbyte] at hreply
      exact exec_setOverride h hlength hreply

end Sys2Proof.Machine
end

section
/-! PROOFS. SET_NOTICE and RESUME_NOTICE, case by case (O59). -/

namespace Sys2Proof.Machine
set_option Elab.async false

section
variable {t : State} {r : Request} {x address port timeout : Byte}

theorem boolOf_eq_none (h : 1 < x.toNat) : boolOf x = none := by revert x; decide

theorem portOf_eq_none (h : 1 < x.toNat) : portOf x = none := by revert x; decide

theorem setNotice_args (h : r.args = [x, address, port, timeout]) : setNotice r t =
    if timeout.toNat = 0 then .refused .badArgument
    else
      match boolOf x, portOf port with
      | some false, _ => .done [] (t.clearDestination timeout.toNat)
      | some true, some p =>
        if address = 255 then .refused .badArgument else .done [] (t.setDestination ⟨address, p⟩ timeout.toNat)
      | _, _ => .refused .badArgument := by
  rw [setNotice, h]
  rfl

theorem setNotice_of_illegal (h : r.args = [x, address, port, timeout])
    (hbad : timeout = 0 ∨ 1 < x.toNat ∨ (x = 1 ∧ (1 < port.toNat ∨ address = 255))) :
    setNotice r t = .refused .badArgument := by
  rw [setNotice_args h]
  obtain rfl | hlarge | ⟨rfl, hport | rfl⟩ := hbad
  · exact if_pos rfl
  · rw [boolOf_eq_none hlarge, ite_self]
  · rw [portOf_eq_none hport]
    exact ite_self _
  · cases portOf port <;> exact ite_self _

theorem setNotice_of_clear (h : r.args = [0, address, port, timeout]) (htimeout : timeout ≠ 0) :
    setNotice r t = .done [] (t.clearDestination timeout.toNat) :=
  (setNotice_args h).trans (if_neg (mt BitVec.eq_of_toNat_eq htimeout))

theorem setNotice_of_destination {p : Port} (h : r.args = [1, address, portCode p, timeout]) (htimeout : timeout ≠ 0)
    (haddress : address ≠ 255) : setNotice r t = .done [] (t.setDestination ⟨address, p⟩ timeout.toNat) := by
  have hnonzero : timeout.toNat ≠ 0 := fun h => htimeout (BitVec.eq_of_toNat_eq h)
  rw [setNotice_args h, if_neg hnonzero, portOf_eq_some_iff.2 rfl]
  exact if_neg haddress

theorem resumeNotice_of_on (h : t.notice.state ≠ .off) : resumeNotice t = .done [] { t with
    notice := { t.notice with
      state := .active
      timer := none
      retries := 0
      resend := if t.events.outstanding = [] then t.notice.resend else oldestSeq t.events.outstanding
      frame := if t.events.outstanding = [] then t.notice.frame else t.notice.frame.filter fun f => f.inTransmission } } := by
  rw [resumeNotice, if_neg h]
  split <;> rfl

end

/-- Settles O59: the branches of SET_NOTICE in the order of its checks, and RESUME_NOTICE with and without outstanding
records. -/
theorem theNoticeSenderObeys : Obligations.TheNoticeSenderObeys := by
  intro s r refused all notWaiting
  refine ⟨fun x address port timeout h hargs => ?_, fun h hargs => ?_⟩
  · have hlength : r.args.length = 4 := by rw [hargs]; rfl
    refine ⟨fun hbad => ?_, fun htimeout hx => ?_, fun p htimeout hx hport haddress => ?_⟩
    · exact exec_setNotice h hlength (setNotice_of_illegal (t := s.dequeue) hargs hbad)
    · exact exec_setNotice h hlength (setNotice_of_clear (t := s.dequeue) (hx ▸ hargs) htimeout)
    · subst hx hport
      exact exec_setNotice h hlength (setNotice_of_destination (t := s.dequeue) hargs htimeout haddress)
  · have hlength : r.args.length = 0 := by rw [hargs]; rfl
    exact ⟨fun hoff => exec_resumeNotice h hlength (if_pos (c := s.dequeue.notice.state = .off) hoff),
      fun hon => exec_resumeNotice h hlength (resumeNotice_of_on (t := s.dequeue) hon)⟩

end Sys2Proof.Machine
end

section
/-! PROOFS. What READ_STATUS and READ_COUNTERS report: the place of each item in the status report, and the counters of
a group before and after a read that clears them (O58). -/

namespace Sys2Proof.Machine
set_option Elab.async false

/-! ## The status report -/

theorem byteAt_append_of_lt {xs ys : List Byte} {i : Nat} (h : i < xs.length) : byteAt (xs ++ ys) i = byteAt xs i :=
  List.getD_append _ _ _ _ h

theorem byteAt_append_add (xs ys : List Byte) (i : Nat) : byteAt (xs ++ ys) (xs.length + i) = byteAt ys i :=
  (List.getD_append_right _ _ _ _ (Nat.le_add_right _ _)).trans (by rw [Nat.add_sub_cancel_left]; rfl)

theorem byteAt_map_toList {α : Type} {n : Nat} (v : Vector α n) (f : α → Byte) (i : Fin n) :
    byteAt (v.toList.map f) i.val = f v[i] := by
  simp [byteAt, List.getD]

/-- The first six bytes of the status report: banks and table service. -/
def State.tableReport (s : State) : List Byte :=
  [s.engine.activeBank.code, tableStateCode s.tables.state] ++ verifyBytes s.tables.verify

/-- The last eleven bytes of the status report: notice sender, events, links and frame store. -/
def State.trafficReport (s : State) : List Byte :=
  [noticeStateCode s.notice.state, byteOf s.events.outstanding.length, byteOf s.events.size] ++
    be16 (BitVec.ofNat 16 s.events.lost) ++
    [byteOf (linkBit s.link.a.recorded + 2 * linkBit s.link.b.recorded), byteOf s.store.free.length,
     byteOf s.store.ready.a.length, byteOf s.store.ready.b.length,
     byteOf s.store.forward.a.length, byteOf s.store.forward.b.length]

theorem State.statusReport_eq (s : State) : s.statusReport = s.tableReport ++
    (s.monitors.toList.map (fun m => monitorStateCode m.run.state) ++
      (s.classes.toList.map classByte ++ s.trafficReport)) := by
  simp only [State.statusReport, State.tableReport, State.trafficReport, List.append_assoc]

theorem State.tableReport_length (s : State) : s.tableReport.length = 6 := by
  rw [State.tableReport]
  cases s.tables.verify <;> rfl

section
variable (s : State)

theorem State.statusReport_length : s.statusReport.length = 97 := by
  simp [State.statusReport_eq, s.tableReport_length, State.trafficReport]

theorem State.statusReport_table {i : Nat} (h : i < 6) : byteAt s.statusReport i = byteAt s.tableReport i := by
  rw [s.statusReport_eq, byteAt_append_of_lt (by rwa [s.tableReport_length])]

theorem State.statusReport_monitor (m : MonitorId) :
    byteAt s.statusReport (6 + m.val) = monitorStateCode (s.monitor m).run.state := by
  have hskip := byteAt_append_add s.tableReport (s.monitors.toList.map (fun m => monitorStateCode m.run.state) ++
    (s.classes.toList.map classByte ++ s.trafficReport)) m.val
  rw [s.tableReport_length] at hskip
  rw [s.statusReport_eq, hskip, byteAt_append_of_lt (by simp), byteAt_map_toList]
  rfl

theorem State.statusReport_class (c : ClassId) : byteAt s.statusReport (54 + c.val) = classByte (s.classState c) := by
  have hskip := byteAt_append_add (s.tableReport ++ s.monitors.toList.map (fun m => monitorStateCode m.run.state))
    (s.classes.toList.map classByte ++ s.trafficReport) c.val
  rw [List.length_append, s.tableReport_length, List.length_map, Vector.length_toList] at hskip
  rw [s.statusReport_eq, ← List.append_assoc, hskip, byteAt_append_of_lt (by simp), byteAt_map_toList]
  rfl

theorem State.statusReport_traffic (i : Nat) : byteAt s.statusReport (86 + i) = byteAt s.trafficReport i := by
  have hskip := byteAt_append_add (s.tableReport ++ s.monitors.toList.map (fun m => monitorStateCode m.run.state) ++
    s.classes.toList.map classByte) s.trafficReport i
  rw [List.length_append, List.length_append, s.tableReport_length, List.length_map, List.length_map,
    Vector.length_toList, Vector.length_toList] at hskip
  rw [s.statusReport_eq, ← hskip]
  simp only [List.append_assoc]

theorem State.statusReport_lost : halfAt s.statusReport 89 = BitVec.ofNat 16 s.events.lost := by
  rw [halfAt, s.statusReport_traffic 3, s.statusReport_traffic 4]
  exact be16_join _

theorem State.statusReport_verify :
    match s.tables.verify with
    | .unverified => byteAt s.statusReport 2 = 0 ∧ halfAt s.statusReport 3 = 0 ∧ byteAt s.statusReport 5 = 0
    | .passed => byteAt s.statusReport 2 = 1 ∧ halfAt s.statusReport 3 = 0 ∧ byteAt s.statusReport 5 = 0
    | .failed i k => byteAt s.statusReport 2 = 2 ∧ halfAt s.statusReport 3 = BitVec.ofNat 16 i ∧
        byteAt s.statusReport 5 = failReasonCode k := by
  simp only [halfAt, s.statusReport_table (i := 2) (by decide), s.statusReport_table (i := 3) (by decide),
    s.statusReport_table (i := 3 + 1) (by decide), s.statusReport_table (i := 5) (by decide), State.tableReport]
  cases s.tables.verify with
  | unverified => exact ⟨rfl, be16_join 0, rfl⟩
  | passed => exact ⟨rfl, be16_join 0, rfl⟩
  | failed i k => exact ⟨rfl, be16_join _, rfl⟩

theorem State.statusReport_links : (byteAt s.statusReport 91).toNat =
    (if s.link.a.recorded = .up then 1 else 0) + (if s.link.b.recorded = .up then 2 else 0) := by
  rw [s.statusReport_traffic 5, State.trafficReport]
  cases s.link.a.recorded <;> cases s.link.b.recorded <;> rfl

end

/-! ## Counter groups -/

/-- The counters of a group in the order of R152, by name. -/
def Group.ids : Group → List CounterId
  | .port p => [.port p .rxGood, .port p .rxCheckError, .port p .rxLengthError, .port p .rxNoBuffer,
      .port p .rxToSelfOther, .port p .txFrames, .port p .txQueueFull, .port p .txFlushed]
  | .cls k => [.cls k .screened, .cls k .forwarded, .cls k .programDropped, .cls k .blocked, .cls k .marked,
      .cls k .substituted]
  | .screen => [.screen .stepBudget, .screen .windowRange, .screen .cursorRange, .screen .targetRange]
  | .mgmt => [.mgmt .executed, .mgmt .notPermitted, .mgmt .portRefused, .mgmt .malformed, .mgmt .queueDiscard,
      .mgmt .duplicate]
  | .notice => [.notice .framesSent, .notice .retransmissions, .notice .acksIgnored]

/-- The wire code of a counter group (section 12.2). -/
def Group.number : Group → Nat
  | .port .a => 0
  | .port .b => 1
  | .cls k => 2 + k.val
  | .screen => 34
  | .mgmt => 35
  | .notice => 36

theorem groupOf_number {x : Byte} {g : Group} (h : x.toNat = g.number) : groupOf x = some g := by
  have hx : x = byteOf g.number := by rw [← h, byteOf_byte_toNat]
  subst hx
  match g with
  | .port .a | .port .b | .screen | .mgmt | .notice => rfl
  | .cls k => revert k; decide

theorem groupOf_eq_none {x : Byte} (h : 36 < x.toNat) : groupOf x = none := by revert x; decide

theorem toList_eq_map_finRange {α : Type} {n : Nat} (v : Vector α n) : v.toList = (List.finRange n).map fun i => v[i] := by
  apply List.ext_getElem <;> simp

theorem groupCounters_eq_map_ids (c : Counters) (g : Group) : groupCounters c g = g.ids.map c.get := by
  cases g <;> exact toList_eq_map_finRange _

theorem counterBytes_eq (c : Counter) :
    counterBytes c = be32 (BitVec.ofNat 32 ((if c.overflow then 2147483648 else 0) + c.value.toNat)) := by
  refine congrArg be32 (BitVec.eq_of_toNat_eq ?_)
  have hvalue := c.value.isLt
  rw [BitVec.toNat_append, ← Nat.shiftLeft_add_eq_or_of_lt hvalue, BitVec.toNat_ofNat]
  cases c.overflow
  · exact (Nat.mod_eq_of_lt (by omega)).symm
  · exact (Nat.mod_eq_of_lt (by omega)).symm

theorem get_clearGroup (c : Counters) (g : Group) (id : CounterId) :
    (clearGroup c g).get id = if groupOfCounter id = g then ⟨0, false⟩ else c.get id := by
  have hother : ∀ {c' : Counters}, groupOfCounter id ≠ g → c'.get id = c.get id →
      c'.get id = if groupOfCounter id = g then ⟨0, false⟩ else c.get id := fun hne heq => by rwa [if_neg hne]
  have hsame : ∀ {c' : Counters}, groupOfCounter id = g → c'.get id = Counter.zero →
      c'.get id = if groupOfCounter id = g then ⟨0, false⟩ else c.get id := fun heq hzero => by rwa [if_pos heq]
  match id, g with
  | .port p i, .port q =>
    by_cases hpq : p = q
    · subst hpq
      refine hsame rfl ?_
      simp [clearGroup, Counters.get]
    · refine hother (fun h => hpq (Group.port.inj h)) ?_
      simp only [clearGroup, Counters.get, PerPort.get_set_of_ne _ _ hpq]
  | .cls k i, .cls l =>
    by_cases hkl : k = l
    · subst hkl
      refine hsame rfl ?_
      simp [clearGroup, Counters.get]
    · refine hother (fun h => hkl (Group.cls.inj h)) ?_
      have hvalue : (clearGroup c (.cls l)).cls[k] = c.cls[k] :=
        Vector.getElem_set_ne l.isLt k.isLt fun hv => hkl (Fin.ext hv.symm)
      exact congrArg (fun v : Vector Counter 6 => v[classCounterIndex i]) hvalue
  | .screen i, .screen | .mgmt i, .mgmt | .notice i, .notice =>
    refine hsame rfl ?_
    simp [clearGroup, Counters.get]
  | .port .., .cls _ | .port .., .screen | .port .., .mgmt | .port .., .notice
  | .cls .., .port _ | .cls .., .screen | .cls .., .mgmt | .cls .., .notice
  | .screen _, .port _ | .screen _, .cls _ | .screen _, .mgmt | .screen _, .notice
  | .mgmt _, .port _ | .mgmt _, .cls _ | .mgmt _, .screen | .mgmt _, .notice
  | .notice _, .port _ | .notice _, .cls _ | .notice _, .screen | .notice _, .mgmt => exact hother nofun rfl

/-! ## The obligation -/

section
variable {s : State} {r : Request} {x y : Byte}

/-- What READ_COUNTERS replies (R153). -/
def readCounters (r : Request) (t : State) : Reply :=
  match groupOf (byteAt r.args 0), boolOf (byteAt r.args 1) with
  | some g, some clear =>
    .done ([byteAt r.args 0, byteOf (groupCounters t.counters g).length] ++
        (groupCounters t.counters g).flatMap counterBytes)
      (if clear then { t with counters := clearGroup t.counters g } else t)
  | _, _ => .refused .badArgument

theorem exec_readCounters (h : s.Executes r codeReadCounters) (hlength : r.args.length = 2) {reply : Reply}
    (hreply : readCounters r s.dequeue = reply) : exec .readCounters s = .next (reply.leaves s r) :=
  h.fixed (body := readCounters) rfl hlength hreply

theorem readCounters_of_illegal {t : State} (h : 36 < (byteAt r.args 0).toNat ∨ 1 < (byteAt r.args 1).toNat) :
    readCounters r t = .refused .badArgument := by
  obtain hgroup | hclear := h
  · rw [readCounters, groupOf_eq_none hgroup]
  · rw [readCounters, boolOf_eq_none hclear]
    cases groupOf (byteAt r.args 0) <;> rfl

theorem readCounters_of_legal {t : State} {g : Group} (hg : (byteAt r.args 0).toNat = g.number)
    (hy : (byteAt r.args 1).toNat ≤ 1) :
    readCounters r t = .done ([byteAt r.args 0, byteOf g.ids.length] ++ g.ids.flatMap fun id =>
        be32 (BitVec.ofNat 32 ((if (t.counter id).overflow then 2147483648 else 0) + (t.counter id).value.toNat)))
      { t with counters := if byteAt r.args 1 = 1 then clearGroup t.counters g else t.counters } := by
  have hclear : boolOf (byteAt r.args 1) = some (decide (byteAt r.args 1 = 1)) := by
    generalize byteAt r.args 1 = y at hy
    revert y; decide
  simp only [readCounters, groupOf_number hg, hclear, groupCounters_eq_map_ids, List.length_map, List.flatMap_map,
    counterBytes_eq, decide_eq_true_eq]
  split <;> rfl

end

/-- Settles O58: the report's bytes by their places, and a group's counters by their names. -/
theorem reportsShowTheState : Obligations.ReportsShowTheState := by
  intro s r
  refine ⟨fun h hargs => ?_, fun x y h hargs => ⟨fun hbad => ?_, ?_⟩⟩
  · have hlength : r.args.length = 0 := by rw [hargs]; rfl
    refine ⟨s.statusReport, exec_readStatus h hlength, s.statusReport_length, s.statusReport_table (by decide), ?_,
      s.statusReport_verify, s.statusReport_monitor, s.statusReport_class, s.statusReport_traffic 0,
      s.statusReport_traffic 1, s.statusReport_traffic 2, s.statusReport_lost, s.statusReport_links,
      s.statusReport_traffic 6, s.statusReport_traffic 7, s.statusReport_traffic 8, s.statusReport_traffic 9,
      s.statusReport_traffic 10⟩
    refine (s.statusReport_table (i := 1) (by decide)).trans ?_
    rw [State.tableReport]
    cases s.tables.state <;> rfl
  · have hlength : r.args.length = 2 := by rw [hargs]; rfl
    have hbytes : byteAt r.args 0 = x ∧ byteAt r.args 1 = y := by rw [hargs]; exact ⟨rfl, rfl⟩
    exact exec_readCounters (reply := .refused .badArgument) h hlength
      (readCounters_of_illegal (by rwa [hbytes.1, hbytes.2]))
  · intro g hx hy ids
    have hlength : r.args.length = 2 := by rw [hargs]; rfl
    have hbytes : byteAt r.args 0 = x ∧ byteAt r.args 1 = y := by rw [hargs]; exact ⟨rfl, rfl⟩
    have hg : (byteAt r.args 0).toNat = g.number := by
      rw [hbytes.1, hx]
      cases g <;> rfl
    have hids : ids = g.ids := by cases g <;> rfl
    have hreply := readCounters_of_legal (t := s.dequeue) hg (by rwa [hbytes.2])
    rw [hbytes.1, hbytes.2] at hreply
    rw [hids]
    refine ⟨_, exec_readCounters h hlength hreply, rfl, fun id => ?_⟩
    by_cases hclear : y = 1
    · simp only [State.counter, hclear, if_true, true_and, get_clearGroup]
      rfl
    · simp only [State.counter, hclear, if_false, false_and]
      rfl

end Sys2Proof.Machine
end

section
/-! PROOFS. What a RESTART leaves in every block (O60). -/

namespace Sys2Proof.Machine
set_option Elab.async false

theorem Counters.get_zero (id : CounterId) : Counters.zero.get id = ⟨0, false⟩ := by
  match id with
  | .port p i => cases p <;> simp [Counters.get, Counters.zero, PerPort.both, PerPort.get, Counter.zero]
  | .cls _ _ | .screen _ | .mgmt _ | .notice _ => simp [Counters.get, Counters.zero, Counter.zero]

/-! ## The banks -/

/-- A copy that a RESTART cuts has copied `s.copiedEntries` entries (R131); nothing else of the banks changes. -/
theorem State.restartTables_banks (s : State) : s.restartTables.tables.banks =
    if s.tables.state = .copying then
      (s.setBank s.shadow (copiedSoFar (s.bank s.engine.activeBank) (s.bank s.shadow) s.copiedEntries)).tables.banks
    else s.tables.banks := by
  rw [State.restartTables]
  cases s.tables.state <;> rfl

theorem State.restartTables_active (s : State) :
    s.restartTables.bank s.engine.activeBank = s.bank s.engine.activeBank := by
  have hbanks := s.restartTables_banks
  split at hbanks
  · exact (State.bank_congr hbanks _).trans (s.bank_setBank_of_ne _ s.shadow_ne_active.symm)
  · exact State.bank_congr hbanks _

theorem State.restartTables_shadow (s : State) : s.restartTables.bank s.engine.activeBank.other =
    if s.tables.state = .copying then
      copiedSoFar (s.bank s.engine.activeBank) (s.bank s.engine.activeBank.other) s.copiedEntries
    else s.bank s.engine.activeBank.other := by
  have hbanks := s.restartTables_banks
  split at hbanks
  next hcopying => rw [State.bank_congr hbanks, if_pos hcopying]; exact s.bank_setBank_same _ _
  next hother => rw [State.bank_congr hbanks, if_neg hother]

theorem copiedSoFar_header (source old : Bank) (n : Nat) : (copiedSoFar source old n).header = old.header := by
  simp only [copiedSoFar]

theorem copiedSoFar_entries (source old : Bank) (n : Nat) (i : Fin 256) :
    (copiedSoFar source old n).entries[i] = if i.val < n then source.entries[i] else old.entries[i] := by
  simp [copiedSoFar]

/-- The shadow bank's header and entries after a RESTART. -/
theorem State.restartTables_copied (s : State) :
    (s.restartTables.bank s.engine.activeBank.other).header = (s.bank s.engine.activeBank.other).header ∧
    ∀ i : Fin 256, (s.restartTables.bank s.engine.activeBank.other).entries[i] =
      if s.tables.state = .copying ∧ i.val < s.copiedEntries then (s.bank s.engine.activeBank).entries[i]
      else (s.bank s.engine.activeBank.other).entries[i] := by
  rw [s.restartTables_shadow]
  split
  next hcopying => exact ⟨copiedSoFar_header _ _ _, fun i => by simp only [copiedSoFar_entries, hcopying, true_and]⟩
  next hother => exact ⟨rfl, fun i => (if_neg fun h => hother h.1).symm⟩

theorem State.restartTables_fields (s : State) : s.restartTables.pending = s.pending ∧
    s.restartTables.tables.state = .idle ∧ s.restartTables.tables.reports = [] ∧
    s.restartTables.tables.verify = match s.tables.state with
      | .idle => s.tables.verify
      | .switchPending _ => .passed
      | _ => .unverified := by
  rw [State.restartTables]
  cases s.tables.state with
  | copying => exact ⟨s.setBank_pending _ _, rfl, rfl, rfl⟩
  | _ => exact ⟨rfl, rfl, rfl, rfl⟩

/-! ## The other blocks -/

theorem PerPort.get_mk {α : Type} (f : Port → α) (p : Port) : (PerPort.mk (f .a) (f .b)).get p = f p := by
  cases p <;> rfl

theorem State.restartAll_port (s : State) (r : Request) (p : Port) :
    (s.restartAll r).link.get p = (s.link.get p).restart (s.transmitters.get p) ∧
    (s.restartAll r).receivers.get p = (s.receivers.get p).restart ∧
    (s.restartAll r).transmitters.get p = (s.transmitters.get p).restart (s.link.get p).recorded ∧
    (s.restartAll r).lineOut.get p = (s.lineOut.get p).restart (s.transmitters.get p) ∧
    (s.restartAll r).store.share.get p = 0 ∧ (s.restartAll r).store.ready.get p = [] ∧
    (s.restartAll r).store.forward.get p = [] ∧ (s.restartAll r).runCount.get p = 0 := by
  cases p <;> exact ⟨rfl, rfl, rfl, rfl, rfl, rfl, rfl, rfl⟩

theorem State.restartAll_monitor (s : State) (r : Request) (m : MonitorId) :
    (s.restartAll r).monitor m = (s.monitor m).restart := by
  simp [State.monitor, State.restartAll]

theorem State.restartAll_class (s : State) (r : Request) (c : ClassId) :
    (s.restartAll r).classState c = (s.classState c).restart := by
  simp [State.classState, State.restartAll]

theorem Monitor.restart_of_off {x : Monitor} (h : x.run.state = .off) : x.restart = x := by
  rw [Monitor.restart, h]

theorem Monitor.restart_of_on {x : Monitor} (h : x.run.state ≠ .off) : x.restart = { x with run := started x.config } := by
  rw [Monitor.restart]
  split
  next hoff => exact absurd hoff h
  next => rfl

theorem Monitor.restart_config (x : Monitor) : x.restart.config = x.config := by
  rw [Monitor.restart]
  split <;> rfl

/-! ## The obligation -/

/-- Settles O60: the state before the answer is the one in which every block has taken the RESTART. -/
theorem restartKeepsWhatItShould : Obligations.RestartKeepsWhatItShould := by
  intro s r h hargs
  obtain ⟨hhead, hcode, hfree⟩ := h
  obtain ⟨hpending, hidle, hreports, hverify⟩ := s.restartTables_fields
  obtain ⟨hheader, hentries⟩ := s.restartTables_copied
  refine ⟨s.restartAll r, ?_, hpending, fun p => ?_, .refl _, rfl, rfl, rfl, rfl, rfl, rfl, rfl, rfl, hidle, hreports,
    hverify, s.restartTables_active, hheader, fun hother => ?_, ⟨s.copiedEntries, ?_, hentries⟩, fun m => ?_, fun c => ?_,
    rfl, rfl, rfl, rfl, ?_, Counters.get_zero, rfl, rfl⟩
  · have hslot : s.agent.slotFree = true := s.agent.slotFree_iff.2 hfree
    obtain ⟨rest, hq⟩ := List.head?_eq_some_iff.1 hhead
    rw [exec, execRestart, hq]
    simp only [hcode, hslot, hargs]
    rfl
  · obtain ⟨hlink, hreceiver, htransmitter, hline, hstore⟩ := s.restartAll_port r p
    rw [hlink, hreceiver, htransmitter, hline]
    refine ⟨rfl, rfl, ?_, ?_, ?_, ?_, hstore⟩
    · cases s.transmitters.get p <;> rfl
    · cases s.receivers.get p <;> rfl
    · cases s.transmitters.get p <;> cases (s.link.get p).recorded <;> rfl
    · cases s.transmitters.get p <;> rfl
  · exact s.restartTables_banks.trans (if_neg hother)
  · exact Nat.lt_succ_iff.1 (Nat.mod_lt _ (by decide))
  · rw [State.restartAll_monitor]
    refine ⟨Monitor.restart_config _, fun hoff => by rw [Monitor.restart_of_off hoff], fun hon => ?_⟩
    rw [Monitor.restart_of_on hon]
    rfl
  · rw [State.restartAll_class]
    refine ⟨rfl, rfl, ?_⟩
    simp only [ClassState.restart]
    cases (s.classState c).override <;> rfl
  · simp only [State.restartAll, NoticeSender.restart]
    cases s.notice.destination <;> rfl

end Sys2Proof.Machine
end

section
/-! PROOFS. The state after a power-on reset: it meets every invariant (O18), and it holds the chapters' values (O36). -/

namespace Sys2Proof.Machine
set_option Elab.async false

theorem State.reset_heldFrames : State.reset.heldFrames = [] := rfl

theorem State.reset_monitor (m : MonitorId) : State.reset.monitor m = .powerOn := by
  simp [State.monitor, State.reset]

theorem State.reset_class (c : ClassId) : State.reset.classState c = .powerOn := by
  simp [State.classState, State.reset]

theorem State.reset_bank (k : BankId) : State.reset.bank k = .powerOn := by cases k <;> rfl

theorem Bank.entries_powerOn (i : Fin 256) : Bank.powerOn.entries[i] = .powerOn := by simp [Bank.powerOn]

theorem State.reset_queuesSound : QueuesSound State.reset where
  ready := by rintro (_ | _) d ⟨⟩
  requests := by rintro (_ | _) d ⟨⟩
  acks := by rintro (_ | _) d ⟨⟩
  forward := by rintro (_ | _) d ⟨⟩
  flushed := by rintro (_ | _) _ _ <;> rfl

theorem State.reset_withinCapacities : WithinCapacities State.reset where
  ready := by rintro (_ | _) <;> decide
  forward := by rintro (_ | _) <;> decide
  runCount := by rintro (_ | _) <;> decide
  events := by decide
  window := by decide
  lost := by decide
  requests := by decide
  slots := by decide
  cache := by decide

theorem State.reset_banksSound : BanksSound State.reset where
  legal k := by
    rw [State.reset_bank]
    exact Bank.legal_powerOn
  active := by rw [State.reset_bank]; exact examine_powerOn
  shadow := nofun
  waiting := nofun
  posted := nofun
  once := nofun
  first := nofun
  pending := nofun

theorem State.reset_dispositionsDerived : DispositionsDerived State.reset := by
  intro c
  have hnone : ∀ m, State.reset.engagedEntry c m = none := fun m => by
    rw [State.engagedEntry, State.reset_monitor]
    exact if_neg fun h => Bool.noConfusion h.2
  rw [State.reset_class]
  exact ⟨(List.filterMap_eq_nil_iff.2 fun m _ => hnone m).symm, rfl⟩

theorem State.reset_noticeSound : NoticeSound State.reset where
  off := ⟨fun _ => rfl, fun _ => rfl⟩
  offEmpty _ := rfl
  timer := nofun
  retries := .inl (by decide)
  resend := nofun

theorem State.reset_transmittersOwned : TransmittersOwned State.reset where
  notice := by rintro (_ | _) f <;> exact ⟨nofun, nofun⟩
  responses := by rintro (_ | _) _ <;> rfl
  freed _ _ _ := nofun

theorem State.reset_agentSound : AgentSound State.reset where
  address := by decide
  ports := by decide
  sources := by decide
  keys := .nil
  results := rfl

/-- Settles O18: the stores and queues are empty, and every monitor, class and bank has its power-on value. -/
theorem resetMeetsTheInvariants : Obligations.ResetMeetsTheInvariants := by
  refine ⟨?_, ?_, ?_, ?_, State.reset_queuesSound, State.reset_withinCapacities, State.reset_banksSound, nofun, fun m => ?_,
    State.reset_dispositionsDerived, ?_, State.reset_noticeSound, ?_, State.reset_transmittersOwned,
    State.reset_agentSound, rfl⟩
  · rw [BlocksConserved, State.reset_heldFrames]
    exact .of_eq (List.append_nil _)
  · intro p
    rw [State.heldFrom, State.reset_heldFrames]
    cases p <;> decide
  · intro d hd
    rw [State.reset_heldFrames] at hd
    exact absurd hd List.not_mem_nil
  · rintro (_ | _) f ⟨⟩
  · rw [State.reset_monitor]
    exact .ofOff (by decide)
  · exact ⟨by decide, by decide⟩
  · rintro (_ | _) <;> decide

/-- Settles O36: the items of State.reset, one after the other. -/
theorem powerOnResetSetsTheSpecsValues : Obligations.PowerOnResetSetsTheSpecsValues := by
  intro s
  refine ⟨_, rfl, rfl, fun p => ?_, fun b => ?_, rfl, rfl, rfl, rfl, rfl, fun k => ?_, rfl, rfl, fun m => ?_, fun c => ?_,
    rfl, rfl, rfl, rfl, rfl, rfl, rfl, rfl, rfl, rfl, rfl, Counters.get_zero, rfl, rfl, rfl, rfl, rfl, rfl, rfl, rfl⟩
  · cases p <;> exact ⟨rfl, rfl, rfl, rfl, rfl, rfl, rfl, rfl⟩
  · exact List.mem_finRange b
  · refine ⟨?_, fun i => ?_⟩
    · cases k <;> rfl
    · have hbytes : entryOf (List.replicate 16 0) = some .powerOn := by decide
      cases k <;> exact (congrArg some (Bank.entries_powerOn i)).trans hbytes.symm
  · have hmonitor := State.reset_monitor m
    exact ⟨congrArg (·.run) hmonitor, congrArg (·.config) hmonitor⟩
  · exact State.reset_class c

end Sys2Proof.Machine
end

section
/-! PROOFS. Link changes as they are recorded (O37), and each block's taking of a change to DOWN (O38). -/

namespace Sys2Proof.Machine
set_option Elab.async false

/-! ## The changes -/

section
variable {s : State} {p : Port}

theorem State.isNoticePort_iff : s.isNoticePort p = true ↔ ∃ d, s.notice.destination = some d ∧ d.port = p := by
  rw [State.isNoticePort]
  cases s.notice.destination <;> simp

/-- The cut qualifier's two bits: a frame cut at the receiver, a frame cut at the transmitter (R5). -/
theorem State.cutQualifier_bits : (s.cutQualifier p).toNat < 4 ∧
    ((s.cutQualifier p).getLsbD 0 = true ↔ (∃ f, s.receivers.get p = .receiving f) ∨ s.receivers.get p = .discarding) ∧
    ((s.cutQualifier p).getLsbD 1 = true ↔ ∃ f, s.transmitters.get p = .sending f) := by
  rw [State.cutQualifier]
  cases s.receivers.get p <;> cases s.transmitters.get p <;> simp

theorem State.allTakeDown_of_none (h : (s.link.get p).down = .none) : s.allTakeDown p = s := by
  have hnone : DownEvents.none.receiver = false ∧ DownEvents.none.transmitter = false ∧
      DownEvents.none.frameStore = false ∧ DownEvents.none.agent = false ∧ DownEvents.none.noticeSender = false :=
    ⟨rfl, rfl, rfl, rfl, rfl⟩
  simp [State.allTakeDown, State.receiverTakesDown, State.transmitterTakesDown, State.storeTakesDown,
    State.agentTakesDown, State.noticeTakesDown, h, hnone]

theorem execLinkChangeUp_of_down (h : (s.link.get p).recorded = .down) : exec (.linkChangeUp p) s =
    .next ((((s.allTakeDown p).recordChange p .up .none .linkUp 0).setReceiver p .idle).setTransmitter p .idle) := by
  rw [exec, execLinkChangeUp, h]

end

/-- Settles O37: a change to UP of a port whose blocks have taken every change to DOWN is recorded at once, and any
other is one after their takings. -/
theorem linkChangesAreRecorded : Obligations.LinkChangesAreRecorded := by
  intro p s l
  obtain ⟨hcut, hreceiver, htransmitter⟩ := s.cutQualifier_bits (p := p)
  refine ⟨State.isNoticePort_iff, fun hup => ⟨s.cutQualifier p, hcut, hreceiver, htransmitter, ?_⟩,
    fun hdown hnone => ?_, fun hdown => ?_, fun hdown => ?_, fun hup => ?_⟩
  · rw [exec, execLinkChangeDown, hup]
    rfl
  · rw [execLinkChangeUp_of_down hdown, State.allTakeDown_of_none hnone]
    rfl
  · have hlink : ((s.allTakeDown p).link.get p) = { l with down := .none } := by
      rw [State.allTakeDown_link, PerPort.get_set_same]
    have hagain : (s.allTakeDown p).allTakeDown p = s.allTakeDown p := State.allTakeDown_of_none (by rw [hlink])
    refine ⟨_, _, _, _, s.allTakeDown p, rfl, rfl, rfl, rfl, rfl, hlink, ?_⟩
    rw [execLinkChangeUp_of_down hdown, execLinkChangeUp_of_down (by rw [hlink]; exact hdown), hagain]
  · rw [exec, execLinkChangeDown, hdown]
  · rw [exec, execLinkChangeUp, hup]

/-! ## The takings -/

theorem pendingResults_freed (l : List PendingResult) (p : Port) :
    (l.map fun r => if r.port = p then { r with slotReserved := false } else r) =
      l.map fun r => { r with slotReserved := decide (r.port ≠ p) && r.slotReserved } := by
  refine List.map_congr_left fun r _ => ?_
  by_cases hport : r.port = p <;> simp [hport]

/-- Settles O38: each taking in each case of its block, by its definition. -/
theorem blocksTakeAChangeToDown : Obligations.BlocksTakeAChangeToDown := by
  intro p s e taken gone
  refine ⟨fun f he hf => ?_, fun he hother => ?_, fun d he hd => ?_, fun f he hf => ?_, fun f he hf => ?_, fun he hother => ?_,
    fun he => ?_, fun he => ?_, fun he hport => ?_, fun he hport => ?_, fun he => ?_, fun he => ?_, fun he => ?_,
    fun he => ?_, fun he => ?_⟩
  · rw [exec, execReceiverLinkDown, State.receiverTakesDown, if_pos he, hf]
    rfl
  · rw [exec, execReceiverLinkDown, State.receiverTakesDown, if_pos he]
    split
    next f hf => exact absurd hf (hother f)
    next => rfl
  · rw [exec, execTransmitterLinkDown, State.transmitterTakesDown, if_pos he, hd]
    rfl
  · rw [exec, execTransmitterLinkDown, State.transmitterTakesDown, if_pos he, hf]
    rfl
  · rw [exec, execTransmitterLinkDown, State.transmitterTakesDown, if_pos he, hf]
    rfl
  · rw [exec, execTransmitterLinkDown, State.transmitterTakesDown, if_pos he]
    split
    next f hf => exact absurd hf (hother f)
    next => rfl
  · refine ⟨sharesWithout s.store.share gone, fun q => by cases q <;> rfl, ?_⟩
    rw [exec, execFlush, State.storeTakesDown, if_pos he, FrameStore.flush, FrameStore.releaseAll_closed,
      ← List.length_map (f := fun d : Screened => d.desc)]
    rfl
  · rw [exec, execSlotFreeAtLinkDown, State.agentTakesDown, if_pos he]
    simp only [pendingResults_freed]
    rfl
  · rw [exec, execNoticePortDown, State.noticeTakesDown, if_pos he, if_pos hport]
    rfl
  · rw [exec, execNoticePortDown, State.noticeTakesDown, if_pos he, if_neg (by rw [hport]; decide)]
    rfl
  · rw [exec, execReceiverLinkDown, State.receiverTakesDown, if_neg (by rw [he]; decide)]
  · rw [exec, execTransmitterLinkDown, State.transmitterTakesDown, if_neg (by rw [he]; decide)]
  · rw [exec, execFlush, State.storeTakesDown, if_neg (by rw [he]; decide)]
  · rw [exec, execSlotFreeAtLinkDown, State.agentTakesDown, if_neg (by rw [he]; decide)]
  · rw [exec, execNoticePortDown, State.noticeTakesDown, if_neg (by rw [he]; decide)]

end Sys2Proof.Machine
end

section
/-! PROOFS. Reception: a frame's start, its claims, and its giving up (O40); its judgement and its routing at its end
(O41). -/

namespace Sys2Proof.Machine
set_option Elab.async false

/-! ## A run of bytes within one block -/

/-- A write goes by the addresses of its positions. -/
theorem writeFrameBytes_congr {d d' : Descriptor} {vs : List Byte} : ∀ {cells : List Host.Cell} {i i' : Nat},
    (∀ j, j < vs.length → frameAddress d (i + j) = frameAddress d' (i' + j)) →
      writeFrameBytes d i vs cells = writeFrameBytes d' i' vs cells := by
  induction vs with
  | nil => exact fun _ => rfl
  | cons v vs ih =>
    intro cells i i' h
    have hfirst : writeFrameByte d i v cells = writeFrameByte d' i' v cells := by
      have haddress := h 0 (Nat.succ_pos _)
      rw [Nat.add_zero, Nat.add_zero] at haddress
      rw [writeFrameByte, writeFrameByte, haddress]
    rw [writeFrameBytes, writeFrameBytes, hfirst]
    refine ih fun j hj => ?_
    rw [Nat.add_assoc, Nat.add_assoc, Nat.add_comm 1]
    exact h (j + 1) (Nat.succ_lt_succ hj)

/-- The positions of a frame's newest block are that block's addresses. -/
theorem frameAddress_newest {p : Port} {total n : Nat} {blocks : List BlockId} {b : BlockId}
    (hn : n = 64 * blocks.length) {j : Nat} (hj : j < 64) :
    frameAddress ⟨p, total, blocks ++ [b]⟩ (n + j) = some (64 * b.val + j) := by
  have hindex : (n + j) / Config.blockSize = blocks.length := by rw [hn, Config.blockSize]; omega
  have hplace : (n + j) % Config.blockSize = j := by rw [hn, Config.blockSize]; omega
  rw [frameAddress_eq_some_iff, hindex, hplace]
  exact ⟨b, List.getElem?_concat_length, rfl⟩

/-- A run written into a frame's newest block: what the block's addresses read, and every other address. -/
theorem readCells_writeNewest {p : Port} {total n : Nat} {blocks : List BlockId} {b : BlockId} {vs : List Byte}
    {cells : List Host.Cell} (hwf : Memory.wf cells = true) (hn : n = 64 * blocks.length) (hvs : vs.length ≤ 64) :
    let after := writeFrameBytes ⟨p, total, blocks ++ [b]⟩ n vs cells
    (∀ i, i < vs.length → readCells after (64 * b.val + i) = byteAt vs i) ∧
      ∀ a, a < 64 * b.val ∨ 64 * b.val + vs.length ≤ a → readCells after a = readCells cells a := by
  intro after
  have haddress : ∀ {j}, j < 64 → frameAddress ⟨p, 64, [b]⟩ (0 + j) = some (64 * b.val + j) :=
    fun hj => frameAddress_newest (blocks := []) rfl hj
  have hafter : after = writeFrameBytes ⟨p, 64, [b]⟩ 0 vs cells :=
    writeFrameBytes_congr fun j hj => (frameAddress_newest hn (by omega)).trans (haddress (by omega)).symm
  refine ⟨fun i hi => ?_, fun a ha => ?_⟩
  · rw [hafter, ← frameByte_of_address (haddress (Nat.lt_of_lt_of_le hi hvs))]
    refine frameByte_writeFrameBytes_of_inside (List.nodup_singleton b) hwf hi ?_
    have hzero : (0 + i) / Config.blockSize = 0 := Nat.div_eq_of_lt (by rw [Config.blockSize]; omega)
    rw [hzero]
    exact Nat.zero_lt_one
  · rw [hafter]
    refine read_writeFrameBytes_of_outside _ a 0 vs hwf fun j _ hj hja => ?_
    have hj64 := haddress (j := j) (by omega)
    rw [Nat.zero_add, hja, Option.some.injEq] at hj64
    omega

/-! ## Claims -/

theorem atClaimPosition_of {n : Nat} (hposition : n % 64 = 0) (hroom : n < 508) : atClaimPosition n = true := by
  simp [atClaimPosition, Config.blockSize, Config.maxTotal, hposition, hroom]

theorem grantedBlock_of_mem {free : List BlockId} {pick : BlockId} (h : pick ∈ free) : grantedBlock free pick = pick :=
  if_pos h

theorem FrameStore.claimGranted_iff (st : FrameStore) (p : Port) :
    st.claimGranted p = true ↔ st.free ≠ [] ∧ st.share.get p < 64 := by
  simp only [FrameStore.claimGranted, Bool.and_eq_true, Bool.not_eq_true', List.isEmpty_eq_false_iff, decide_eq_true_eq]
  exact Iff.rfl

theorem execBlockClaim_of_position {s : State} {p : Port} {f : Reception} {bytes : List Byte} (pick : BlockId)
    (hf : s.receivers.get p = .receiving f) (hposition : atClaimPosition f.count = true) (hbytes : bytes ≠ []) :
    exec (.blockClaim p pick bytes) s =
      if s.store.claimGranted p = true then .next (s.grantClaim p f pick bytes)
      else .next ((s.giveUp p f .rxNoBuffer).raiseDiscard p 1 .rxNoBuffer) := by
  obtain ⟨b, bs, rfl⟩ := List.exists_cons_of_ne_nil hbytes
  simp only [exec, execBlockClaim, hf, hposition, if_true]

theorem blockBytes_eq_take (count : Nat) (bytes : List Byte) :
    blockBytes count bytes = bytes.take (min bytes.length (min 64 (508 - count))) := by
  simp only [blockBytes, List.take_eq_take_iff, Config.blockSize, Config.maxTotal]
  omega

theorem State.raiseDiscard_eq (s : State) (p : Port) (cause : Byte) (c : PortCounter) (n : Counter)
    (h : s.counter (.port p c) = n) : s.raiseDiscard p cause c =
      { s with events := s.events.append s.time .frameDiscard (portCode p) cause (n.value.setWidth 32) } := by
  rw [State.raiseDiscard, State.counterDetail, h]
  rfl

/-- Settles O40: each command by the receiver's state; a granted claim writes within the block it takes. -/
theorem framesAreTakenBlockByBlock : Obligations.FramesAreTakenBlockByBlock := by
  refine ⟨fun p s hdown => ⟨?_, ?_, ?_, fun pick bytes => ?_, fun aborted => ?_⟩, fun p s hidle => ?_,
    fun p s hdiscarding => ?_, fun p s f hf hcount => ?_, fun p s f pick bytes hf hposition hroom hbytes => ?_⟩
  · rw [exec, execFrameStart, hdown]
  · rw [exec, execOversize, hdown]
  · rw [exec, execFrameEndInDiscarding, hdown]
  · simp only [exec, execBlockClaim, hdown]
  · rw [exec, execFrameEnd, hdown]
  · rw [exec, execFrameStart, hidle]
    rfl
  · rw [exec, execFrameEndInDiscarding, hdiscarding]
    rfl
  · rw [exec, execOversize, hf]
    exact if_pos hcount
  · intro n
    have hexec := execBlockClaim_of_position pick hf (atClaimPosition_of hposition hroom) hbytes
    have htaken : blockBytes f.count bytes = bytes.take n := blockBytes_eq_take _ _
    have hlength : (bytes.take n).length = n := by rw [List.length_take]; omega
    refine ⟨fun hfree hshare => ?_, fun hrefused => ?_⟩
    · have hgranted := (s.store.claimGranted_iff p).2 ⟨hfree, hshare⟩
      rw [if_pos hgranted, State.grantClaim, htaken, hlength] at hexec
      refine ⟨grantedBlock s.store.free pick, grantedBlock_mem hgranted pick, _, grantedBlock_of_mem, hexec, fun hwf hn => ?_⟩
      obtain ⟨hinside, houtside⟩ := readCells_writeNewest (vs := bytes.take n) (p := p) (total := f.count + n)
        (b := grantedBlock s.store.free pick) hwf hn (by omega)
      rw [hlength] at hinside houtside
      refine ⟨fun i hi => (hinside i hi).trans ?_, houtside⟩
      rw [byteAt, List.getD_eq_getElem?_getD, List.getElem?_take_of_lt hi, List.getD_eq_getElem?_getD]
    · have hnot : ¬ s.store.claimGranted p = true := by
        rw [FrameStore.claimGranted_iff]
        rintro ⟨hfree, hshare⟩
        exact hrefused.elim hfree (Nat.not_le.2 hshare)
      rw [if_neg hnot, State.raiseDiscard_eq _ p 1 .rxNoBuffer ((s.giveUp p f .rxNoBuffer).counter (.port p .rxNoBuffer)) rfl] at hexec
      have hcount : (s.giveUp p f .rxNoBuffer).counter (.port p .rxNoBuffer) = (s.counter (.port p .rxNoBuffer)).add 1 :=
        s.counter_count_same (.port p .rxNoBuffer) 1
      rw [hcount] at hexec
      exact hexec

/-! ## The end of a frame -/

theorem frameBytes_length (cells : List Host.Cell) (d : Descriptor) : (frameBytes cells d).length = d.total := by
  simp [frameBytes]

section
variable {aborted : Bool} {frame : List Byte}

/-- The first three checks of R9. -/
theorem firstFailure_of_unsound
    (h : ¬ (aborted = false ∧ 12 ≤ frame.length ∧ (halfAt frame 6).toNat + 12 = frame.length)) :
    firstFailure aborted frame = some .rxLengthError := by
  rw [firstFailure]
  split
  next => rfl
  next haborted =>
    split
    next => rfl
    next hlong =>
      have hmatch : lengthMatches frame = false :=
        decide_eq_false fun hmatch => h ⟨eq_false_of_ne_true haborted, Nat.not_lt.1 hlong, hmatch⟩
      rw [hmatch]
      rfl

theorem firstFailure_of_sound (h : aborted = false ∧ 12 ≤ frame.length ∧ (halfAt frame 6).toNat + 12 = frame.length) :
    firstFailure aborted frame = if checkMatches frame = true then none else some .rxCheckError := by
  obtain ⟨rfl, hlong, hlength⟩ := h
  have hmatch : lengthMatches frame = true := decide_eq_true hlength
  rw [firstFailure, if_neg nofun, if_neg (Nat.not_lt.2 hlong), hmatch]
  cases checkMatches frame <;> rfl

end

section
variable {s : State} {p : Port} {f : Reception} {aborted : Bool}

theorem execFrameEnd_of_failure {c : PortCounter} (hf : s.receivers.get p = .receiving f)
    (h : firstFailure aborted (s.frameBytes (f.descriptor p)) = some c) :
    exec (.frameEnd p aborted) s = .next ((s.setReceiver p .idle).discardReceived (f.descriptor p) c) := by
  simp only [exec, execFrameEnd, hf, h]

theorem execFrameEnd_of_valid (hf : s.receivers.get p = .receiving f)
    (h : firstFailure aborted (s.frameBytes (f.descriptor p)) = none) :
    exec (.frameEnd p aborted) s = .next ((s.setReceiver p .idle).route (f.descriptor p)) := by
  simp only [exec, execFrameEnd, hf, h]

end

section
variable {s : State} {d : Descriptor}

theorem State.route_request (haddress : s.frameByte d 0 = s.agent.ownAddress) (htype : s.frameByte d 2 = 0xF0) :
    s.route d = s.handToAgent d := by
  rw [State.route, if_pos haddress]
  exact if_pos htype

theorem State.route_noticeAck (haddress : s.frameByte d 0 = s.agent.ownAddress) (htype : s.frameByte d 2 = 0xF3) :
    s.route d = s.handToNoticeSender d := by
  rw [State.route, if_pos haddress, if_neg (by rw [htype]; decide)]
  exact if_pos htype

theorem State.route_other (haddress : s.frameByte d 0 = s.agent.ownAddress) (hrequest : s.frameByte d 2 ≠ 0xF0)
    (hack : s.frameByte d 2 ≠ 0xF3) : s.route d = s.discardReceived d .rxToSelfOther := by
  rw [State.route, if_pos haddress]
  exact (if_neg hrequest).trans (if_neg hack)

theorem State.route_through (haddress : s.frameByte d 0 ≠ s.agent.ownAddress) : s.route d = s.offerReady d :=
  if_neg haddress

end

/-- Settles O41: the checks in their order, then the routes of R10 and R11. -/
theorem framesAreJudgedAtTheirEnd : Obligations.FramesAreJudgedAtTheirEnd := by
  intro p s f aborted hf d frame idle returned discarded sound valid
  have hlength : frame.length = f.count := frameBytes_length _ d
  have hunsound : ¬ sound → firstFailure aborted frame = some .rxLengthError := fun h =>
    firstFailure_of_unsound (by rwa [hlength])
  have hsound : sound → firstFailure aborted frame = if checkMatches frame = true then none else some .rxCheckError :=
    fun h => firstFailure_of_sound (by rwa [hlength])
  have hcheck : checkMatches frame = true ↔ wordAtLe frame (f.count - 4) = crc (frame.take (f.count - 4)) := by
    rw [checkMatches, decide_eq_true_iff, hlength]
  have hvalid : valid → exec (.frameEnd p aborted) s = .next ((s.setReceiver p .idle).route d) := fun h =>
    execFrameEnd_of_valid hf ((hsound h.1).trans (if_pos (hcheck.2 h.2)))
  refine ⟨fun h => ?_, fun h hinvalid => ?_, fun h haddress htype => ?_, fun h haddress htype => ?_,
    fun h haddress hrequest hack => ?_, fun h haddress hroom => ?_, fun h haddress hfull => ?_⟩
  · exact execFrameEnd_of_failure hf (hunsound h)
  · exact execFrameEnd_of_failure hf ((hsound h).trans (if_neg fun hok => hinvalid ⟨h, hcheck.1 hok⟩))
  · rw [hvalid h, State.route_request (s := s.setReceiver p .idle) haddress htype]
    rfl
  · rw [hvalid h, State.route_noticeAck (s := s.setReceiver p .idle) haddress htype]
    rfl
  · rw [hvalid h, State.route_other (s := s.setReceiver p .idle) haddress hrequest hack]
    rfl
  · rw [hvalid h, State.route_through (s := s.setReceiver p .idle) haddress, State.offerReady]
    exact congrArg Host.Outcome.next (if_neg (Nat.not_le.2 hroom))
  · have hcount : ((s.setReceiver p .idle).discardReceived d .rxNoBuffer).counter (.port p .rxNoBuffer) =
        (s.counter (.port p .rxNoBuffer)).add 1 := s.counter_count_same (.port p .rxNoBuffer) 1
    rw [hvalid h, State.route_through (s := s.setReceiver p .idle) haddress, State.offerReady]
    refine congrArg Host.Outcome.next ((if_pos hfull).trans ?_)
    exact State.raiseDiscard_eq _ p 2 .rxNoBuffer _ hcount

end Sys2Proof.Machine
end

section
/-! PROOFS. The screening engine's three commands: the take of a frame (O42), the end of its walk (O43) and the switch of
the banks (O44). -/

namespace Sys2Proof.Machine
set_option Elab.async false

/-! ## A take -/

theorem State.takePort_eq_some {s : State} {p : Port} {d : Descriptor} {rest : List Descriptor}
    (hready : s.store.ready.get p = d :: rest)
    (hturn : s.store.ready.get (opposite p) = [] ∨ s.engine.lastServed ≠ p) : s.takePort = some p := by
  have hlast : s.store.ready.get (opposite p) ≠ [] → s.engine.lastServed = opposite p := fun hother => by
    have hne := hturn.resolve_left hother
    cases p <;> cases hserved : s.engine.lastServed <;> first | rfl | exact absurd hserved hne
  cases p with
  | a =>
    have ha : s.store.ready.a = d :: rest := hready
    cases hb : s.store.ready.b with
    | nil => rw [State.takePort, ha, hb]
    | cons d' rest' =>
      rw [State.takePort, ha, hb]
      simp only [hlast (by simp [opposite, PerPort.get, hb])]
      rfl
  | b =>
    have hb : s.store.ready.b = d :: rest := hready
    cases ha : s.store.ready.a with
    | nil => rw [State.takePort, ha, hb]
    | cons d' rest' =>
      rw [State.takePort, ha, hb]
      simp only [hlast (by simp [opposite, PerPort.get, ha])]
      rfl

theorem execFrameTake_of_not (s : State) (h : s.engine.phase ≠ .idle ∨ s.engine.switchPending = true ∨
    (s.engine.switchPosted = true ∧ s.engine.takeMayPrecede = false) ∨ (s.store.ready.a = [] ∧ s.store.ready.b = [])) :
    exec .frameTake s = .next s := by
  obtain e | ⟨p, d, rest, hidle, hpending, hturn, hready, -⟩ := execFrameTake_cases s
  · exact e
  · exfalso
    obtain hphase | hswitch | ⟨hposted, hfirst⟩ | ⟨ha, hb⟩ := h
    · exact hphase hidle
    · rw [hpending] at hswitch
      cases hswitch
    · rw [hposted, hfirst] at hturn
      exact hturn.elim nofun nofun
    · cases p with
      | a => cases ha.symm.trans hready
      | b => cases hb.symm.trans hready

/-- Settles O42: a take from IDLE begins the walk, or completes one that has no entry to evaluate. -/
theorem framesAreTakenInTurn : Obligations.FramesAreTakenInTurn := by
  refine ⟨execFrameTake_of_not, fun p s d rest hidle hpending hfirst hready hturn => ?_⟩
  intro h entry walking
  have hprecedes : (s.engine.switchPending || s.requestPrecedesTake) = false := by
    rw [hpending, State.requestPrecedesTake]
    obtain hposted | hmay := hfirst
    · rw [hposted]; rfl
    · rw [hmay, Bool.not_true, Bool.and_false]; rfl
  have hexec : exec .frameTake s =
      if (s.startWalk p).entry < (s.startWalk p).header.length.val then
        .next { s.takeHead p rest with engine := { (s.takeHead p rest).engine with phase := .walking d (s.startWalk p) } }
      else .next ((s.takeHead p rest).completeWalk d (s.startWalk p)) := by
    simp only [exec, execFrameTake, hidle, hprecedes, State.takePort_eq_some hready hturn, hready]
  have hentry : (s.startWalk p).entry = entry := by cases p <;> rfl
  have hwalk : s.startWalk p = ⟨s.engine.activeBank, h, entry, 8, 0, Vector.replicate 4 none⟩ := by rw [← hentry]; rfl
  have hstart : walking = { s.takeHead p rest with
      engine := { (s.takeHead p rest).engine with phase := .walking d (s.startWalk p) } } := by rw [hwalk]; rfl
  refine ⟨fun hlt => ?_, fun hge => ?_⟩
  · rw [hexec, hstart, if_pos (by rw [hentry]; exact hlt)]
  · rw [hexec, hstart, if_neg (by rw [hentry]; exact Nat.not_lt.2 hge)]
    rfl

/-! ## The end of a walk -/

theorem execSwitchRequest_of_rest {t : State} (hposted : t.engine.switchPosted = true)
    (hrest : ∀ d w, t.engine.phase ≠ .walking d w) : exec .switchRequest t = .next t.takeRequest.switchBanks := by
  rw [exec, execSwitchRequest, if_pos hposted]
  dsimp only
  split
  next d w hwalking => exact absurd hwalking (hrest d w)
  next => rfl

/-- A finished walk's switch is made as SWITCH_REQUEST makes one in HOLDING (R65). -/
theorem State.makeAwaitedSwitch_eq {t : State} {d : Screened} {f : Option FaultKind} {n : Nat}
    (hphase : t.engine.phase = .holding d f n) :
    (t.engine.switchPosted = false → t.engine.switchPending = false → t.makeAwaitedSwitch = t) ∧
    (t.engine.switchPosted = true ∨ t.engine.switchPending = true → .next t.makeAwaitedSwitch =
      exec .switchRequest { t with engine := { t.engine with switchPosted := true } }) := by
  refine ⟨fun hposted hpending => by rw [State.makeAwaitedSwitch, hposted, hpending]; rfl, fun hawaited => ?_⟩
  have hmade : t.makeAwaitedSwitch = t.takeRequest.switchBanks := if_pos (by simpa using hawaited)
  rw [hmade]
  exact (execSwitchRequest_of_rest (t := { t with engine := { t.engine with switchPosted := true } }) rfl
    (by simp [hphase])).symm

/-- Settles O43: the walk's end is written by its kind, and the awaited switch is made after it. -/
theorem walksCompleteIntoHolding : Obligations.WalksCompleteIntoHolding := by
  intro s d w hwalking ended answer
  have hanswer : ∀ e, ended = e → answer (s.finishWalk d w e) := fun e he => by
    have hexec : exec .walkCompletion s = .next (s.finishWalk d w e).makeAwaitedSwitch := by
      rw [exec, execWalkCompletion, hwalking, ← he]
      rfl
    have hengine : (s.finishWalk d w e).engine = { s.engine with
        phase := .holding (screeningResult d w e).1 (screeningResult d w e).2.1 (screeningResult d w e).2.2 } := by
      simp [State.finishWalk]
    have hmake := State.makeAwaitedSwitch_eq (congrArg Engine.phase hengine)
    have hsame : (s.finishWalk d w e).engine.switchPosted = s.engine.switchPosted ∧
        (s.finishWalk d w e).engine.switchPending = s.engine.switchPending := by rw [hengine]; exact ⟨rfl, rfl⟩
    rw [hsame.1, hsame.2] at hmake
    exact ⟨fun hposted hpending => hexec.trans (congrArg Host.Outcome.next (hmake.1 hposted hpending)),
      fun hawaited => hexec.trans (hmake.2 hawaited)⟩
  refine ⟨fun v c slots n he => hanswer _ he, fun k i n he => ?_⟩
  have hverdict : faultVerdict w.header.faultDisposition =
      if w.header.faultDisposition = .forwardUnclassified then .accept else .drop := by
    cases w.header.faultDisposition <;> rfl
  have hfault := hanswer _ he
  simp only [State.finishWalk, screeningResult, hverdict] at hfault
  cases k <;> exact hfault

/-- Settles O44: in WALKING the switch becomes pending; anywhere else the commit mode says what follows the exchange. -/
theorem switchesAreMadeBetweenWalks : Obligations.SwitchesAreMadeBetweenWalks := by
  intro s hposted old taken switched
  have hreads : s.takeRequest.tables.state = s.tables.state := rfl
  refine ⟨fun d w hwalking => ?_, fun hrest hkeep => ?_, fun hrest hcopy => ?_⟩
  · have hphase : s.takeRequest.engine.phase = .walking d w := hwalking
    rw [exec, execSwitchRequest, if_pos hposted]
    dsimp only
    split
    next => rfl
    next hrest => exact absurd hphase (hrest d w)
  · rw [execSwitchRequest_of_rest hposted hrest, State.switchBanks, hreads, hkeep]
    simp only [State.completeCommit, State.raise, State.shadow, BankId.other_other]
    rfl
  · rw [execSwitchRequest_of_rest hposted hrest, State.switchBanks, hreads, hcopy]
    rfl

end Sys2Proof.Machine
end

section
/-! PROOFS. A frame is taken by the monitors of its class, decided, and offered (O45). -/

namespace Sys2Proof.Machine
set_option Elab.async false

/-! ## The monitors -/

/-- The part without what monitors' transitions change: monitors, classes, events and purge requests. -/
def State.outsideMonitors (s : State) : State :=
  { s with
    monitors := State.reset.monitors, classes := State.reset.classes, events := State.reset.events,
    store := { s.store with purges := [] } }

theorem State.eq_of_outsideMonitors {s u : State} (h : u.outsideMonitors = s.outsideMonitors) : u = { s with
    monitors := u.monitors, classes := u.classes, events := u.events, store := { s.store with purges := u.store.purges } } :=
  congrArg (fun t : State => { t with
    monitors := u.monitors, classes := u.classes, events := u.events, store := { t.store with purges := u.store.purges } }) h

theorem State.makeTransition_outside (s : State) (m : MonitorId) (t : Transition) :
    (s.makeTransition m t).outsideMonitors = s.outsideMonitors := by
  obtain ⟨run, event, report⟩ := t
  cases report with
  | none => rw [(transitionsAreReported s m run event true).left]; rfl
  | some e => rw [(transitionsAreReported s m run event e).right]; rfl

theorem State.monitorsTake_outside (s : State) (d : Screened) :
    (s.monitorsTake d).outsideMonitors = s.outsideMonitors := by
  refine foldl_keeps State.outsideMonitors _ (fun t m => ?_) _ s
  simp only [State.monitorTakes]
  split
  · exact t.makeTransition_outside m _
  · rfl

/-- A monitor after a frame, which it takes if it is ON and has the frame's class (R74). -/
def Monitor.taking (d : Screened) (x : Monitor) : Monitor :=
  if x.run.state ≠ .off ∧ x.config.cls = d.cls then { x with run := (takeFrame x d.slots).run } else x

theorem State.monitorTakes_monitor (s : State) (d : Screened) (m n : MonitorId) :
    (State.monitorTakes d s m).monitor n = if n = m then (s.monitor m).taking d else s.monitor n := by
  simp only [State.monitorTakes, Monitor.taking]
  split
  · exact s.makeTransition_monitor m n _
  · split
    next h => rw [h]
    next => rfl

theorem State.foldl_monitorTakes_monitor (d : Screened) (n : MonitorId) {ms : List MonitorId} (hms : ms.Nodup) (s : State) :
    (ms.foldl (State.monitorTakes d) s).monitor n = if n ∈ ms then (s.monitor n).taking d else s.monitor n := by
  induction ms generalizing s with
  | nil => rfl
  | cons m ms ih =>
    obtain ⟨hm, hrest⟩ := List.nodup_cons.1 hms
    rw [List.foldl_cons, ih hrest, State.monitorTakes_monitor]
    by_cases hn : n = m
    · subst hn
      rw [if_neg hm, if_pos rfl, if_pos List.mem_cons_self]
    · simp only [List.mem_cons, hn, false_or, if_false]

theorem State.monitorsTake_monitor (s : State) (d : Screened) (n : MonitorId) :
    (s.monitorsTake d).monitor n = (s.monitor n).taking d :=
  (State.foldl_monitorTakes_monitor d n (List.nodup_finRange 48) s).trans (if_pos (List.mem_finRange n))

section
variable {d : Screened} {x : Monitor}

theorem Monitor.taking_config : (x.taking d).config = x.config := by
  rw [Monitor.taking]
  split <;> rfl

theorem Monitor.taking_of_not (h : x.run.state = .off ∨ x.config.cls ≠ d.cls) : x.taking d = x :=
  if_neg fun hon => h.elim hon.1 fun hother => hother hon.2

theorem Monitor.taking_of_on (hon : x.run.state ≠ .off) (hclass : x.config.cls = d.cls) :
    (x.taking d).run = (takeFrame x d.slots).run := congrArg Monitor.run (if_pos ⟨hon, hclass⟩)

end

/-! ## The decision -/

theorem lacksSample_iff (d : Screened) (l : List (Fin 4 × Word)) : lacksSample d l = true ↔ ∃ x ∈ l, d.slots[x.1] = none := by
  simp [lacksSample]

theorem execMonitorTakeFrame_of_holding {s t : State} {d : Screened} {k : Option FaultKind} {n : Nat}
    (hphase : s.engine.phase = .holding d k n) (ht : (s.monitorsTake d).decideFrame d = t) :
    exec .monitorTakeFrame s = .next { t with engine := { s.engine with phase := .idle } } := by
  have hengine : ((s.monitorsTake d).decideFrame d).engine = s.engine := by simp
  rw [exec, execMonitorTakeFrame, hphase, ← ht]
  dsimp only
  rw [hengine]

section
variable {s : State} {d : Screened}

theorem State.decideFrame_of_drop (h : d.verdict = .drop) :
    s.decideFrame d = (s.release d.desc).count (.cls d.cls .programDropped) 1 := by rw [State.decideFrame, h]

variable (haccept : d.verdict = .accept)
include haccept

theorem State.decideFrame_of_pass (h : (s.classState d.cls).effective = .pass) : s.decideFrame d = s.offer d := by
  rw [State.decideFrame, haccept, h]

theorem State.decideFrame_of_block (h : (s.classState d.cls).effective = .block) : s.decideFrame d = s.block d := by
  rw [State.decideFrame, haccept, h]

theorem State.decideFrame_of_mark (h : (s.classState d.cls).effective = .mark) :
    s.decideFrame d = ((s.markFrame d.desc markedFlag).count (.cls d.cls .marked) 1).offer d := by
  rw [State.decideFrame, haccept, h]

theorem State.decideFrame_of_lacks (h : (s.classState d.cls).effective = .substitute)
    (hlacks : ∃ x ∈ s.rewrites d.cls, d.slots[x.1] = none) : s.decideFrame d = s.block d := by
  rw [State.decideFrame, haccept, h]
  exact if_pos ((lacksSample_iff d _).2 hlacks)

theorem State.decideFrame_of_substitute (h : (s.classState d.cls).effective = .substitute)
    (hall : ∀ x ∈ s.rewrites d.cls, d.slots[x.1] ≠ none) : s.decideFrame d =
      ((((s.setBytes (rewriteSlots d (s.rewrites d.cls) s.store.bytes)).markFrame d.desc
        (markedFlag ||| substitutedFlag)).count (.cls d.cls .marked) 1).count (.cls d.cls .substituted) 1).offer d := by
  have hnot : ¬ lacksSample d (s.rewrites d.cls) = true := fun hlacks => by
    obtain ⟨x, hx, hnone⟩ := (lacksSample_iff d _).1 hlacks
    exact hall x hx hnone
  rw [State.decideFrame, haccept, h]
  exact if_neg hnot

end

/-- An offer to a port that is DOWN returns the frame (R22, R115); `offer_of_up` has the other two outcomes. -/
theorem State.offer_of_down {s : State} {d : Screened} (h : (s.link.get (opposite d.desc.ingress)).recorded = .down) :
    s.offer d = (s.release d.desc).count (.port (opposite d.desc.ingress) .txFlushed) 1 := by
  rw [State.offer, h]

theorem State.offer_of_up {s : State} {d : Screened} (h : (s.link.get (opposite d.desc.ingress)).recorded = .up) :
    s.offer d =
      if 24 ≤ (s.store.forward.get (opposite d.desc.ingress)).length then
        ((s.release d.desc).count (.port (opposite d.desc.ingress) .txQueueFull) 1).raiseDiscard
          (opposite d.desc.ingress) 3 .txQueueFull
      else
        { s with
          store := s.store.setForward (opposite d.desc.ingress)
            (s.store.forward.get (opposite d.desc.ingress) ++ [d]) }.count (.cls d.cls .forwarded) 1 := by
  rw [State.offer, h]
  rfl

/-- Settles O45: the fold over the monitors, then the decision under the disposition that it leaves, then the offer. -/
theorem framesAreDecidedAfterTheirMonitors : Obligations.FramesAreDecidedAfterTheirMonitors := by
  refine ⟨fun s d k n hphase => ?_, fun s d => ?_⟩
  · intro u answer disposition marked rewritten
    have hanswer : ∀ {t}, u.decideFrame d = t → answer t := execMonitorTakeFrame_of_holding hphase
    refine ⟨rfl, State.eq_of_outsideMonitors (s.monitorsTake_outside d), fun m => ?_,
      fun h => hanswer (State.decideFrame_of_drop h), fun h hx => hanswer (State.decideFrame_of_block h hx),
      fun h hx => hanswer (State.decideFrame_of_pass h hx), fun h hx => hanswer (State.decideFrame_of_mark h hx),
      fun h hx hlacks => hanswer (State.decideFrame_of_lacks h hx hlacks),
      fun h hx hall => hanswer (State.decideFrame_of_substitute h hx hall)⟩
    rw [s.monitorsTake_monitor d m]
    exact ⟨Monitor.taking_config, Monitor.taking_of_not, Monitor.taking_of_on⟩
  · intro q queue returned
    refine ⟨rfl, State.offer_of_down, fun hup hfull => ?_, fun hup hroom => ?_⟩
    · have hcount : ((s.release d.desc).count (.port q .txQueueFull) 1).counter (.port q .txQueueFull) =
          (s.counter (.port q .txQueueFull)).add 1 := s.counter_count_same (.port q .txQueueFull) 1
      exact (State.offer_of_up hup).trans ((if_pos hfull).trans (State.raiseDiscard_eq _ q 3 .txQueueFull _ hcount))
    · exact (State.offer_of_up hup).trans (if_neg (Nat.not_le.2 hroom))

end Sys2Proof.Machine
end

section
/-! PROOFS. Egress: a purge (O46), a grant (O47) and the end of a transmission (O48). -/

namespace Sys2Proof.Machine
set_option Elab.async false

/-! ## A purge -/

theorem FrameStore.purge_eq (st : FrameStore) (c : ClassId) :
    let gone := ((st.forward.a ++ st.forward.b).filter fun d => decide (d.cls = c)).map (·.desc)
    st.purge c = { st with
      forward := ⟨st.forward.a.filter fun d => decide (d.cls ≠ c), st.forward.b.filter fun d => decide (d.cls ≠ c)⟩
      free := st.free ++ gone.flatMap (·.blocks)
      share := sharesWithout st.share gone } := by
  intro gone
  have hgone : (st.forward.a.filter (ofClass c) ++ st.forward.b.filter (ofClass c)).map (·.desc) = gone := by
    rw [← List.filter_append]
    rfl
  rw [FrameStore.purge, hgone, FrameStore.releaseAll_closed]
  simp only [ofClass, ne_eq, decide_not]

theorem FrameStore.purgeCount_eq (st : FrameStore) (c : ClassId) :
    st.purgeCount c = (((st.forward.a ++ st.forward.b).filter fun d => decide (d.cls = c)).map (·.desc)).length := by
  rw [List.length_map, List.filter_append, List.length_append]
  rfl

/-- Settles O46: the queues keep the other classes, and the removed frames are released together. -/
theorem purgesEmptyBothQueues : Obligations.PurgesEmptyBothQueues := by
  intro c s hrequest gone
  refine ⟨(s.store.purge c).forward, sharesWithout s.store.share gone, fun p => ?_, fun p => by cases p <;> rfl, ?_⟩
  · rw [FrameStore.purge_eq]
    cases p <;> rfl
  · rw [exec, execPurge, if_pos hrequest, FrameStore.purgeCount_eq]
    simp only [FrameStore.purge_eq]
    rfl

/-! ## A grant -/

theorem waitsOn_iff (p : Port) (r : HeldResponse) : waitsOn p r = true ↔ r.port = p ∧ r.inTransmission = false := by
  simp [waitsOn]

section
variable {s : State} {p : Port}

theorem State.runAfterPrecedence_eq :
    s.runAfterPrecedence p = if s.store.forward.get p = [] then 0 else s.runCount.get p + 1 := by
  rw [State.runAfterPrecedence]
  cases s.store.forward.get p <;> rfl

theorem State.grant_of_response {f : Originated} (h : s.store.forward.get p = [] ∨ s.runCount.get p < 3)
    (hresponse : s.responseRequester p = some f) : s.grant p = s.grantResponse p f := by
  rw [State.grant, hresponse]
  split
  next hqueue => exact if_neg (Nat.not_le.2 (h.resolve_left (by simp [hqueue])))
  next => rfl

theorem State.grant_of_notice {f : Originated} (h : s.store.forward.get p = [] ∨ s.runCount.get p < 3)
    (hresponse : s.responseRequester p = none) (hnotice : s.noticeRequester p = some f) : s.grant p = s.grantNotice p f := by
  rw [State.grant, hresponse, hnotice]
  split
  next hqueue => exact if_neg (Nat.not_le.2 (h.resolve_left (by simp [hqueue])))
  next => rfl

theorem State.grant_of_forward {d : Screened} {rest : List Screened} (hqueue : s.store.forward.get p = d :: rest)
    (h : 3 ≤ s.runCount.get p ∨ (s.responseRequester p = none ∧ s.noticeRequester p = none)) :
    s.grant p = s.grantForward p d rest := by
  rw [State.grant, hqueue]
  obtain hrun | ⟨hresponse, hnotice⟩ := h
  · exact if_pos hrun
  · rw [hresponse, hnotice]
    exact ite_self _

theorem State.grant_of_none (hqueue : s.store.forward.get p = []) (hresponse : s.responseRequester p = none)
    (hnotice : s.noticeRequester p = none) : s.grant p = s := by
  rw [State.grant, hqueue, hresponse, hnotice]

theorem State.responseRequester_eq_none (h : ∀ r ∈ s.agent.responses, ¬ (r.port = p ∧ r.inTransmission = false)) :
    s.responseRequester p = none := by
  rw [State.responseRequester, List.find?_eq_none.2 fun r hr => mt (waitsOn_iff p r).1 (h r hr)]
  rfl

/-- The oldest waiting response is the requester, and its grant marks it alone. -/
theorem State.responseRequester_of_first {earlier later : List HeldResponse} {r : HeldResponse}
    (hresponses : s.agent.responses = earlier ++ r :: later) (hwaits : r.port = p ∧ r.inTransmission = false)
    (hearlier : ∀ x ∈ earlier, ¬ (x.port = p ∧ x.inTransmission = false)) : s.responseRequester p = some r.frame := by
  rw [State.responseRequester, hresponses, List.find?_append,
    List.find?_eq_none.2 fun x hx => mt (waitsOn_iff p x).1 (hearlier x hx),
    List.find?_cons_of_pos ((waitsOn_iff p r).2 hwaits)]
  rfl

theorem grantFirst_of_first {earlier later : List HeldResponse} {r : HeldResponse}
    (hwaits : r.port = p ∧ r.inTransmission = false)
    (hearlier : ∀ x ∈ earlier, ¬ (x.port = p ∧ x.inTransmission = false)) :
    grantFirst p (earlier ++ r :: later) = earlier ++ { r with inTransmission := true } :: later := by
  induction earlier with
  | nil => exact if_pos ((waitsOn_iff p r).2 hwaits)
  | cons x earlier ih =>
    have hx : ¬ waitsOn p x = true := mt (waitsOn_iff p x).1 (hearlier x List.mem_cons_self)
    rw [List.cons_append, grantFirst, if_neg hx, ih fun y hy => hearlier y (List.mem_cons_of_mem _ hy)]
    rfl

theorem State.noticeRequester_of_waiting {f : NoticeFrame} (hframe : s.notice.frame = some f) (hport : f.port = p)
    (hwaits : f.inTransmission = false) : s.noticeRequester p = some f.frame := by
  rw [State.noticeRequester, hframe]
  exact if_pos ⟨hport, hwaits⟩

theorem State.noticeRequester_eq_none
    (h : ∀ f, ¬ (s.notice.frame = some f ∧ f.port = p ∧ f.inTransmission = false)) : s.noticeRequester p = none := by
  rw [State.noticeRequester]
  cases hframe : s.notice.frame with
  | none => rfl
  | some f => exact if_neg fun hwaits => h f ⟨hframe, hwaits⟩

theorem execEgressGrant_of_not (h : (s.link.get p).recorded = .down ∨ s.transmitters.get p ≠ .idle) :
    exec (.egressGrant p) s = .next s := by
  simp only [exec, execEgressGrant]
  split
  next hidle hup => exact absurd h (by simp [hidle, hup])
  next => rfl

theorem execEgressGrant_of_idle (hidle : s.transmitters.get p = .idle) (hup : (s.link.get p).recorded = .up) :
    exec (.egressGrant p) s = .next (s.grant p) := by
  simp only [exec, execEgressGrant, hidle, hup]

end

/-- Settles O47: the requester of the highest rank is granted, unless the run count demands the forward head. -/
theorem portsGrantByPrecedence : Obligations.PortsGrantByPrecedence := by
  refine ⟨fun p s => execEgressGrant_of_not, fun p s hidle hup => ?_⟩
  intro queue run waits noResponse noticeWaits precedes counted
  have hexec := execEgressGrant_of_idle hidle hup
  refine ⟨fun earlier r later hresponses hwaits hearlier hprecedes => ?_, fun f hnone hnotice hprecedes => ?_,
    fun d rest hqueue hlast => ?_, fun hqueue hnone hnotice => ?_⟩
  · rw [hexec, State.grant_of_response hprecedes (State.responseRequester_of_first hresponses hwaits hearlier),
      State.grantResponse, State.runAfterPrecedence_eq, hresponses, grantFirst_of_first hwaits hearlier]
    rfl
  · obtain ⟨hframe, hport, hwaits⟩ := hnotice
    rw [hexec, State.grant_of_notice hprecedes (State.responseRequester_eq_none hnone)
      (State.noticeRequester_of_waiting hframe hport hwaits), State.grantNotice, State.runAfterPrecedence_eq, hframe]
    rfl
  · have hrequesters : 3 ≤ s.runCount.get p ∨ (s.responseRequester p = none ∧ s.noticeRequester p = none) :=
      hlast.imp_right fun h => ⟨State.responseRequester_eq_none h.1, State.noticeRequester_eq_none h.2⟩
    rw [hexec, State.grant_of_forward hqueue hrequesters]
    rfl
  · rw [hexec, State.grant_of_none hqueue (State.responseRequester_eq_none hnone) (State.noticeRequester_eq_none hnotice)]

/-! ## The end of a transmission -/

theorem freeSent_eq_eraseP (p : Port) (l : List HeldResponse) :
    freeSent p l = l.eraseP fun r => decide (r.port = p) && r.inTransmission := by
  induction l with
  | nil => rfl
  | cons r l ih =>
    rw [freeSent, List.eraseP_cons, ih]
    by_cases hr : r.port = p ∧ r.inTransmission = true
    · rw [if_pos hr, decide_eq_true hr.1, hr.2]
      rfl
    · have hsent : (decide (r.port = p) && r.inTransmission) = false := by
        rw [Bool.and_eq_false_iff, decide_eq_false_iff_not, ← Bool.not_eq_true, ← not_and_or]
        exact hr
      rw [if_neg hr, hsent]
      rfl

/-- Settles O48: each kind of frame in transmission returns to its owner. -/
theorem transmissionsEnd : Obligations.TransmissionsEnd := by
  intro p s sent line
  refine ⟨fun f hf => ?_, fun f hf => ?_, fun d hd => ?_⟩
  · rw [exec, execEndOfTransmission, hf]
    simp only [State.reportSent, freeSent_eq_eraseP]
    rfl
  · rw [exec, execEndOfTransmission, hf]
    rfl
  · rw [exec, execEndOfTransmission, hd]
    rfl

end Sys2Proof.Machine
end

section
/-! PROOFS. Time: the tick, and the five timer expiries of a monitor (O49). -/

namespace Sys2Proof.Machine
set_option Elab.async false

theorem tickTimer_eq_map (t : Timer) : tickTimer t = t.map fun n => n - 1 := by cases t <;> rfl

theorem tickRuntime_eq (r : MonitorRuntime) : tickRuntime r = { r with
    delay := r.delay.map fun n => n - 1
    recovery := r.recovery.map fun n => n - 1
    silence := r.silence.map fun n => n - 1
    decay := r.decay.map fun n => n - 1
    expiry := r.expiry.map fun n => n - 1 } := by
  simp only [tickRuntime, tickTimer_eq_map]

theorem State.monitor_of_ticked {s t : State} {m : MonitorId} (h : t.monitors = s.monitors.map tickMonitor) :
    t.monitor m = tickMonitor (s.monitor m) := by
  simp [State.monitor, h]

theorem State.takeExpiry_of_expired {s : State} {m : MonitorId} {timer : MonitorRuntime → Timer}
    {expires : MonitorConfig → MonitorRuntime → Transition} {t : Transition} (h : timer (s.monitor m).run = some 0)
    (ht : expires (s.monitor m).config (s.monitor m).run = t) : s.takeExpiry m timer expires = s.makeTransition m t := by
  subst ht
  exact if_pos (decide_eq_true h)

/-! ## The transition that each expiry makes -/

section
variable {c : MonitorConfig} {r : MonitorRuntime}

theorem delayExpires_of_alert (h : r.state = .alert) : delayExpires c r = trip c r 2 := by
  rw [delayExpires]
  dsimp only
  rw [h]
  rfl

theorem recoveryExpires_of_recovering (h : r.state = .recovering) : recoveryExpires c r = clear c r 2 := by
  rw [recoveryExpires]
  dsimp only
  rw [h]
  rfl

theorem silenceExpires_of_normal (h : r.state = .normal) :
    silenceExpires c r = offend c { r with silence := none } 2 0 := by
  rw [silenceExpires]
  dsimp only
  rw [h]

theorem silenceExpires_of_recovering (h : r.state = .recovering) :
    silenceExpires c r = quietly { r with state := .tripped, silence := none, recovery := none } := by
  rw [silenceExpires]
  dsimp only
  rw [h]

theorem decayExpires_of_clear (h : r.state = .normal ∨ r.state = .alert) : decayExpires c r = quietly { r with
    latchCounter := r.latchCounter - 1
    decay := if 1 < r.latchCounter then some (c.decayInterval.toNat * 100) else none } := by
  have hcount : 0 < r.latchCounter - 1 ↔ 1 < r.latchCounter := by omega
  rw [decayExpires]
  obtain h | h := h <;> rw [h] <;> simp only [hcount] <;> rfl

theorem latchExpires_of_latched (h : r.state = .latched) : latchExpires c r = releaseLatch c r 2 := by
  rw [latchExpires, h]

end

/-- Settles O49: a tick acts on every timer alike, and an expiry makes its state's transition. -/
theorem timersRunAndExpire : Obligations.TimersRunAndExpire := by
  refine ⟨fun s => ⟨_, rfl, ?_, fun m => ?_⟩, fun s m => ?_⟩
  · rw [tickTimer_eq_map]
  · intro r
    exact ⟨(congrArg Monitor.config (State.monitor_of_ticked (s := s) rfl)).trans rfl,
      (congrArg Monitor.run (State.monitor_of_ticked (s := s) rfl)).trans (tickRuntime_eq r)⟩
  · intro c r quietly
    refine ⟨fun h hstate => ?_, fun h hstate => ?_, fun h hstate hdelay => ?_, fun h hstate hdelay => ?_,
      fun h hstate => ?_, fun h hstate => ?_, fun h hstate => ?_⟩
    · exact congrArg Host.Outcome.next (State.takeExpiry_of_expired h (delayExpires_of_alert hstate))
    · exact congrArg Host.Outcome.next (State.takeExpiry_of_expired h (recoveryExpires_of_recovering hstate))
    · exact congrArg Host.Outcome.next
        (State.takeExpiry_of_expired h ((silenceExpires_of_normal hstate).trans (if_pos hdelay)))
    · exact congrArg Host.Outcome.next
        (State.takeExpiry_of_expired h ((silenceExpires_of_normal hstate).trans (if_neg hdelay)))
    · exact congrArg Host.Outcome.next (State.takeExpiry_of_expired h (silenceExpires_of_recovering hstate))
    · exact congrArg Host.Outcome.next (State.takeExpiry_of_expired h (decayExpires_of_clear hstate))
    · exact congrArg Host.Outcome.next (State.takeExpiry_of_expired h (latchExpires_of_latched hstate))

end Sys2Proof.Machine
end

section
/-! PROOFS. The notice sender's commands: forming and retransmission (O50), acknowledgement (O51). -/

namespace Sys2Proof.Machine
set_option Elab.async false

/-! ## Forming -/

theorem State.formNotice_eq {s : State} {dst : Destination} {first : Queued} {rest : List Queued}
    (h : s.nextRecords = first :: rest) : s.formNotice dst = { s with
      events := { s.events with
        outstanding := s.events.outstanding ++ (s.events.unsent.take s.nextUnsentCount).map markCarried
        unsent := s.events.unsent.drop s.nextUnsentCount }
      notice := { s.notice with
        frame := some
          ⟨⟨dst.address, s.agent.ownAddress, 0xF2, first.record.seq, s.nextRecords.flatMap fun q => eventBytes q.record⟩,
            dst.port, false⟩
        resend := oldestSeq ((dueRecords s.notice.resend s.events.outstanding).drop 4)
        timer := if s.notice.timer = none then some (s.notice.timeout * 10) else s.notice.timer }
      counters :=
        if s.nextRecords.any fun q => q.carried then (s.count (.notice .retransmissions) 1).counters else s.counters } := by
  have hseq : (oldestSeq s.nextRecords).getD 0 = first.record.seq := by rw [h]; rfl
  simp only [State.formNotice, State.noticeFor, hseq]
  split <;> cases s.notice.timer <;> rfl

theorem execNoticeForming_of_ready {s : State} {dst : Destination} (hactive : s.notice.state = .active)
    (hframe : s.notice.frame = none) (hdst : s.notice.destination = some dst) :
    exec .noticeForming s = if s.nextRecords.isEmpty = true then .next s else .next (s.formNotice dst) := by
  simp only [exec, execNoticeForming, hactive, hframe, hdst]

/-- Settles O50: the next frame carries the records that `nextRecords` names; an expiry counts against the limit. -/
theorem noticesAreFormedAndRepeated : Obligations.NoticesAreFormedAndRepeated := by
  refine ⟨fun s dst hactive hframe hdst => ?_, fun s htimer => ⟨fun hretries => ?_, fun hretries => ?_⟩⟩
  · intro due k carried
    have hexec := execNoticeForming_of_ready hactive hframe hdst
    have hdue : dueRecords s.notice.resend s.events.outstanding = due := rfl
    have hcount : s.nextUnsentCount = k := by
      rw [State.nextUnsentCount, State.nextDue, hdue]
      rfl
    have hcarried : s.nextRecords = carried := by
      rw [State.nextRecords, State.nextDue, hdue, hcount]
      rfl
    refine ⟨fun hnone => ?_, fun first rest hsome => ?_⟩
    · rw [hexec, hcarried, hnone]
      rfl
    · have hnext := hcarried.trans hsome
      rw [hexec, if_neg (by rw [hnext]; exact nofun), State.formNotice_eq hnext, hdue, hcount, hcarried]
      rfl
  · rw [exec, execRetransmitTimerExpiry, if_pos htimer]
    exact if_neg (by omega)
  · rw [exec, execRetransmitTimerExpiry, if_pos htimer]
    exact if_pos (by omega)

/-! ## Acknowledgement -/

theorem State.acceptsAck_iff {s : State} {source : Byte} {p : Port} :
    s.acceptsAck source p = true ↔ s.notice.destination = some ⟨source, p⟩ := by
  rw [State.acceptsAck]
  cases s.notice.destination with
  | none => simp
  | some dst =>
    obtain ⟨address, port⟩ := dst
    simp

theorem afterAck_of_first {n : Half} {older newer : List Queued} {x : Queued} (hx : x.record.seq = n)
    (holder : ∀ y ∈ older, y.record.seq ≠ n) : afterAck n (older ++ x :: newer) = newer := by
  have hskip : ∀ y ∈ older, decide (y.record.seq ≠ n) = true := fun y hy => decide_eq_true (holder y hy)
  rw [afterAck, List.dropWhile_append_of_pos hskip, List.dropWhile_cons_of_neg (by simp [hx]), List.tail_cons]

theorem EventQueue.acknowledge_eq (q : EventQueue) (time : Word) {n : Half} {newer : List Queued}
    (h : afterAck n q.outstanding = newer) : q.acknowledge time n =
      if q.lost = 0 then { q with outstanding := newer }
      else
        { outstanding := newer
          unsent := q.unsent ++ [⟨⟨q.nextSeq, time, .eventsLost, 0, 1, 0, BitVec.ofNat 32 q.lost⟩, false⟩]
          nextSeq := q.nextSeq + 1
          lost := 0 } := by
  rw [EventQueue.acknowledge, h]
  split <;> rfl

theorem NoticeSender.acknowledge_eq (n : NoticeSender) (newer : List Queued) : n.acknowledge newer = { n with
    retries := 0
    timer := if newer = [] then none else some (n.timeout * 10)
    state := if n.state = .stalled then .active else n.state
    resend := n.resend.bind fun k =>
      if newer.any fun y => decide (y.record.seq = k) then some k
      else newer.head?.map fun (y : Queued) => y.record.seq } := by
  rw [NoticeSender.acknowledge]
  congr 1
  · cases n.state <;> rfl
  · cases newer <;> rfl
  · cases n.resend <;> rfl

theorem execNoticeAck_of_inbox {p : Port} {s : State} {d : Descriptor} {rest : List Descriptor}
    (h : s.notice.inbox.get p = d :: rest) : exec (.noticeAck p) s =
      .next ({ s with notice := { s.notice with inbox := s.notice.inbox.set p rest } }.readAck d) := by
  simp only [exec, execNoticeAck, h]

/-- Settles O51: the frame is read only from the destination, and the records up to the one that it names go. -/
theorem acknowledgementsClearRecords : Obligations.AcknowledgementsClearRecords := by
  intro p s d rest hinbox inbox returned fromDestination n good q
  rw [execNoticeAck_of_inbox hinbox, State.readAck]
  have haccepts : (({ s with notice := { s.notice with inbox := s.notice.inbox.set p rest } } : State).release d).acceptsAck
      (s.frameByte d 1) d.ingress = true ↔ fromDestination := State.acceptsAck_iff
  refine ⟨fun hother => ?_, fun hfrom hnone => ?_, fun older x newer hfrom hlong hq hx holder => ?_⟩
  · exact congrArg Host.Outcome.next (if_neg (mt haccepts.1 hother))
  · refine congrArg Host.Outcome.next ((if_pos (haccepts.2 hfrom)).trans ?_)
    by_cases hshort : d.total < 14
    · exact if_pos hshort
    · have hno : ¬ holdsSeq n q.outstanding = true := fun hholds => by
        obtain ⟨x, hx, hseq⟩ := holdsSeq_iff.1 hholds
        exact hnone.resolve_left hshort x hx hseq
      exact (if_neg hshort).trans (if_neg hno)
  · have hholds : holdsSeq n q.outstanding = true := holdsSeq_iff.2 ⟨x, by rw [hq]; simp, hx⟩
    have hrest : afterAck n q.outstanding = newer := by rw [hq]; exact afterAck_of_first hx holder
    refine congrArg Host.Outcome.next ((if_pos (haccepts.2 hfrom)).trans ((if_neg (Nat.not_lt.2 hlong)).trans ?_))
    refine (if_pos hholds).trans ?_
    have hevents := q.acknowledge_eq s.time hrest
    have hnotice : ({ s.notice with inbox := inbox } : NoticeSender).acknowledge (afterAck n q.outstanding) = _ :=
      (congrArg _ hrest).trans (NoticeSender.acknowledge_eq _ newer)
    exact congrArg₂ (fun (e : EventQueue) (m : NoticeSender) => { s with
      store := returned, counters := good.counters, events := e, notice := m }) hevents hnotice

end Sys2Proof.Machine
end

section
/-! PROOFS. The checks that a management request passes on its arrival (O52). -/

namespace Sys2Proof.Machine
set_option Elab.async false

section
variable {a : Agent} {r : Request}

theorem Agent.refusesSource_iff :
    a.refusesSource r = true ↔ ¬ (a.sources = [] ∨ r.source ∈ a.sources ∨ r.command = codeIdentify) := by
  simp only [Agent.refusesSource, Bool.and_eq_true, Bool.not_eq_true', decide_eq_true_eq,
    not_or, ← Bool.not_eq_true, List.contains_iff_mem, and_assoc, List.isEmpty_iff]

theorem Agent.inFlight_iff : a.inFlight r = true ↔
    (∃ q ∈ a.requests, q.port = r.port ∧ q.source = r.source ∧ q.tag = r.tag) ∨
      ∃ q ∈ a.pendingResults, q.port = r.port ∧ q.source = r.source ∧ q.tag = r.tag := by
  simp [Agent.inFlight, and_assoc]

end

section
variable {t : State} {r : Request}

theorem State.judgeArrival_of_port (h : t.agent.portSet.get r.port = false) :
    t.judgeArrival r = t.dropRequest r .portRefused := if_pos h

theorem State.judgeArrival_of_short (hport : t.agent.portSet.get r.port = true) (h : r.frame.total < 15) :
    t.judgeArrival r = t.dropRequest r .malformed := by
  rw [State.judgeArrival, if_neg (by rw [hport]; decide), if_pos h]

variable (hport : t.agent.portSet.get r.port = true) (hlong : 15 ≤ r.frame.total)
include hport hlong

theorem State.judgeArrival_of_refused (h : t.agent.refusesSource r = true) : t.judgeArrival r =
    if t.agent.slotFree = true then
      (t.dropRequest r .notPermitted).respond r.port r.source r.seq r.tag r.command .notPermitted []
    else t.dropRequest r .notPermitted := by
  rw [State.judgeArrival, if_neg (by rw [hport]; decide), if_neg (Nat.not_lt.2 hlong), if_pos h]

variable (hpermitted : ¬ t.agent.refusesSource r = true)
include hpermitted

theorem State.judgeArrival_of_cached {e : CacheEntry} (h : t.agent.cached r = some e) : t.judgeArrival r =
    if t.agent.slotFree = true then (t.dropRequest r .duplicate).holdResponse r.port e.response
    else t.dropRequest r .duplicate := by
  rw [State.judgeArrival, if_neg (by rw [hport]; decide), if_neg (Nat.not_lt.2 hlong), if_neg hpermitted, h]

theorem State.judgeArrival_of_new (h : t.agent.cached r = none) : t.judgeArrival r =
    if t.agent.inFlight r = true then t.dropRequest r .duplicate
    else if 4 ≤ t.agent.requests.length then t.dropRequest r .queueDiscard
    else { t with agent := { t.agent with requests := t.agent.requests ++ [r] } } := by
  rw [State.judgeArrival, if_neg (by rw [hport]; decide), if_neg (Nat.not_lt.2 hlong), if_neg hpermitted, h]
  rfl

end

theorem execMgmtRequestArrival_of_inbox {p : Port} {s : State} {d : Descriptor} {rest : List Descriptor}
    (h : s.agent.inbox.get p = d :: rest) : exec (.mgmtRequestArrival p) s =
      .next (({ s with agent := { s.agent with inbox := s.agent.inbox.set p rest } } : State).judgeArrival (s.requestOf d)) := by
  simp only [exec, execMgmtRequestArrival, h]
  rfl

/-- Settles O52: the checks in their order, each with its answer. -/
theorem requestsAreAdmitted : Obligations.RequestsAreAdmitted := by
  intro p s d rest hinbox bytes r a agent dropped answer reaches permitted cached inFlight
  let u : State := { s with agent := agent }
  have hanswer : ∀ {t}, u.judgeArrival r = t → answer t := fun ht =>
    (execMgmtRequestArrival_of_inbox hinbox).trans (congrArg Host.Outcome.next ht)
  have hslot : a.slotsInUse < 4 ↔ agent.slotFree = true := agent.slotFree_iff.symm
  have hrefuses : reaches → (¬ permitted ↔ agent.refusesSource r = true) := fun h => by
    rw [Agent.refusesSource_iff]
    exact not_congr ⟨fun hp => hp.2, fun hs => ⟨h, hs⟩⟩
  have hpermits : permitted → ¬ agent.refusesSource r = true := fun h hbad => (hrefuses h.1).2 hbad h
  have hflight : inFlight ↔ agent.inFlight r = true :=
    (Agent.inFlight_iff (a := agent) (r := r)).symm
  refine ⟨fun h => ?_, fun hport h => ?_, fun h hnot hfree => ?_, fun h hnot hfull => ?_, fun e h hcached hfree hup => ?_,
    fun e h hcached hnone => ?_, fun h hcached hdup => ?_, fun h hcached hnew hfull => ?_, fun h hcached hnew hroom => ?_⟩
  · exact hanswer (State.judgeArrival_of_port (t := u) h)
  · exact hanswer (State.judgeArrival_of_short (t := u) hport h)
  · exact hanswer ((State.judgeArrival_of_refused (t := u) h.1 h.2 ((hrefuses h).1 hnot)).trans (if_pos (hslot.1 hfree)))
  · exact hanswer ((State.judgeArrival_of_refused (t := u) h.1 h.2 ((hrefuses h).1 hnot)).trans
      (if_neg (mt hslot.2 (Nat.not_lt.2 hfull))))
  · refine hanswer ((State.judgeArrival_of_cached (t := u) h.1.1 h.1.2 (hpermits h) hcached).trans
      ((if_pos (hslot.1 hfree)).trans ((State.holdResponse_eq _ _ _).trans ?_)))
    exact congrArg (fun l => { dropped .duplicate with agent := { agent with responses := l } }) (if_pos hup)
  · refine hanswer ((State.judgeArrival_of_cached (t := u) h.1.1 h.1.2 (hpermits h) hcached).trans ?_)
    by_cases hfree : agent.slotFree = true
    · have hdown : (s.link.get d.ingress).recorded ≠ .up := by
        rw [hnone.resolve_left (Nat.not_le.2 (hslot.2 hfree))]
        decide
      refine (if_pos hfree).trans ((State.holdResponse_eq _ _ _).trans ?_)
      exact congrArg (fun l => { dropped .duplicate with agent := { agent with responses := l } }) (if_neg hdown)
    · exact if_neg hfree
  · exact hanswer ((State.judgeArrival_of_new (t := u) h.1.1 h.1.2 (hpermits h) hcached).trans (if_pos (hflight.1 hdup)))
  · exact hanswer ((State.judgeArrival_of_new (t := u) h.1.1 h.1.2 (hpermits h) hcached).trans
      ((if_neg (mt hflight.2 hnew)).trans (if_pos hfull)))
  · exact hanswer ((State.judgeArrival_of_new (t := u) h.1.1 h.1.2 (hpermits h) hcached).trans
      ((if_neg (mt hflight.2 hnew)).trans (if_neg (Nat.not_le.2 hroom))))

end Sys2Proof.Machine
end
